-- ==== Sys2Proof/Word.lean ====
section
/-! DEFINITION. The words and index types of the LS416 (00_scope.md section 4): bytes on the wire,
the 32-bit Time Base words, pedestal and record-slot numbers, and the list of pedestals in
ascending order, which several rules walk. -/

namespace Sys2Proof

/-- One byte of a loop frame, a port frame or a record. -/
abbrev Byte := BitVec 8

/-- A 32-bit Time Base word: the millisecond counter, a stamp, the park clock (R179). -/
abbrev Word32 := BitVec 32

/-- A pedestal number, 0 to 15 (00_scope.md section 4). -/
abbrev Pedestal := Fin 16

/-- A record slot of the nonvolatile array, 0 to 47 (R110). -/
abbrev RecordSlot := Fin 48

/-- A row of the tariff table, 0 to 7 (R91). -/
abbrev RowIndex := Fin 8

/-- The sixteen pedestals in ascending order. -/
def pedestals : List Pedestal := [0, 1, 2, 3, 4, 5, 6, 7, 8, 9, 10, 11, 12, 13, 14, 15]

end Sys2Proof
end

