-- ==== Sys2Proof/Syntax.lean ====
section
/-! DEFINITION. The plain data that commands and the state share (names and codes of Table 12.2,
the settlement record, the contents of the nonvolatile array), and `Instr`, the commands of the
LS416: one constructor for each row of spec/opcode_table.json. A command is an operation or an
event: a request frame of a port, the end of a store operation, an answer on the loop, a timer's
expiry, a conversion. Its operands are what the row leaves to the outside. -/

namespace Sys2Proof

/-- The four feeders (00_scope.md section 4). -/
inductive Feeder where
  | a | b | c | d
  deriving DecidableEq, Repr

/-- The ramp mode of a pedestal (Table 2.1). -/
inductive RampMode where
  | hard | soft
  deriving DecidableEq, Repr

/-- The session states; FREE is a slot without a session (R1, R2). -/
inductive SessionState where
  | authorising | ready | delivering | stopping | parked
  deriving DecidableEq, Repr

/-- The stop reasons (Table 1.1). -/
inductive StopReason where
  | hold | customerStop | pedestalFault | emergency | cancelled
  deriving DecidableEq, Repr

/-- The close reasons (Table 1.4). -/
inductive CloseReason where
  | unplugged | hold | customerStop | pedestalFault | emergency | cancelled | linkLost | powerFail
  deriving DecidableEq, Repr

/-- What parked a session (Table 1.1). -/
inductive ParkedBy where
  | complete | stop
  deriving DecidableEq, Repr

/-- The states a report carries (R138). -/
inductive ReportState where
  | idle | plugged | charging | complete | fault
  deriving DecidableEq, Repr

/-- The link states (R131). -/
inductive LinkState where
  | good | doubtful | lost
  deriving DecidableEq, Repr

/-- The park states (R176). -/
inductive ParkState where
  | starting | open | draining | quiesced | powerFail
  deriving DecidableEq, Repr

/-- A park clock stamp: the seconds and CLOCK_SET as they stood (R179). -/
structure ClockStamp where
  seconds  : Word32
  clockSet : Bool
  deriving DecidableEq, Repr

/-- The five snapshot fields of a tariff row (Table 6.1, R94, R96). -/
structure Tariff where
  rate      : Nat
  flatFee   : Nat
  grace     : Nat
  perMinute : Nat
  cap       : Nat
  deriving DecidableEq, Repr

/-- A row of the tariff table (R91). -/
structure TariffRow where
  valid  : Bool
  tariff : Tariff
  deriving DecidableEq, Repr

/-- One segment of a session (R94). -/
structure Segment where
  row      : Nat
  snapshot : Tariff
  start    : ClockStamp
  billed   : Nat
  raw      : Nat
  deriving DecidableEq, Repr

/-- A settlement record as built at close (Table 1.3). The flags NOT_DURABLE and CORRUPT are the
Store Controller's and stand in the queue entry (R114). -/
structure SettlementRecord where
  session         : Nat
  closeSequence   : Nat
  pedestal        : Pedestal
  customerRef     : Word32
  hold            : Nat
  opened          : ClockStamp
  authorised      : ClockStamp
  closed          : ClockStamp
  meterStart      : Nat
  meterEnd        : Nat
  billed          : Nat
  unbilled        : Nat
  overstayMinutes : Nat
  overstayFee     : Nat
  flatFee         : Nat
  total           : Nat
  closeReason     : CloseReason
  meterDispute    : Bool
  segmentsFull    : Bool
  stopIgnored     : Bool
  segments        : List Segment
  deriving DecidableEq, Repr

/-- What a read of a slot's header finds (R110, Table 7.3). -/
inductive Header where
  | blank
  | invalid
  | valid (session closeSequence : Nat)
  deriving DecidableEq, Repr

/-- The bytes of a body as read: the 66 bytes of Table 12.6 and the eight segments of Table 12.7 that a
slot has room for (R94, R190). -/
abbrev BodyImage := Vector Byte 290

/-- What a read of a slot's body finds: blank, a record, or words with an uncorrectable error, which
are kept as read in the layout of R190 (R125). -/
inductive Body where
  | blank
  | record (r : SettlementRecord)
  | damaged (image : BodyImage)
  deriving DecidableEq, Repr

/-- What a read of one record slot finds: its three parts, and how many single-bit errors the read
corrects (R110, R111). -/
structure SlotCells where
  header    : Header
  body      : Body
  markBlank : Bool
  singles   : Nat
  deriving DecidableEq, Repr

/-- A slot with nothing written in it. -/
def SlotCells.blank : SlotCells :=
  { header := .blank, body := .blank, markBlank := true, singles := 0 }

/-- What a read of the settings area or of the counter cell finds (R126, R129). -/
inductive Contents (α : Type) where
  | blank
  | bad
  | good (value : α)
  deriving DecidableEq, Repr

/-- The settings area or the counter cell: its contents, and how many single-bit errors a read of
it corrects (R111). -/
structure Area (α : Type) where
  contents : Contents α
  singles  : Nat
  deriving DecidableEq, Repr

/-- The configuration fields of a pedestal (Table 2.1). -/
structure PedestalConfig where
  present  : Bool
  feeder   : Feeder
  cls      : Fin 4
  cap      : Nat
  rampMode : RampMode
  deriving DecidableEq, Repr

/-- The configuration fields of a feeder (Tables 2.2 and 4.2). -/
structure FeederConfig where
  ceiling       : Nat
  sensorEnabled : Bool
  tlow          : Int
  thigh         : Int
  floor         : Nat
  deriving DecidableEq, Repr

/-- The site parameters (Table 2.2). -/
structure Parameters where
  minGrant     : Nat
  step         : Nat
  stepInterval : Nat
  slack        : Nat
  holdReserve  : Nat
  trackingOn   : Bool
  deriving DecidableEq, Repr

/-- All that the settings area holds (R128). -/
structure Settings where
  pedestals     : Vector PedestalConfig 16
  bindings      : Vector RowIndex 16
  feeders       : Vector FeederConfig 4
  siteCeiling   : Nat
  parameters    : Parameters
  rows          : Vector TariffRow 8
  payLevels     : Vector (Fin 8) 5
  siteLevels    : Vector (Fin 8) 7
  startQuiesced : Bool
  deriving DecidableEq, Repr

/-- One character received on LOOP_RX; a character whose stop bit is low is a framing error (R186). -/
structure LoopChar where
  byte         : Byte
  framingError : Bool
  deriving DecidableEq, Repr

/-- How a record write's attempt ended (R117, R118): its verify passed; it failed, leaving the slot
reading as `left`, and the mark step then did or did not take; or the erase merged into its start
failed, leaving `left`, with no mark step (R122). -/
inductive WriteVerify where
  | pass
  | fail (left : SlotCells) (markTakes : Bool)
  | eraseFail (left : SlotCells)
  deriving DecidableEq, Repr

/-- How an operation on cells of type `α` ended: its verify passed, or it failed and left `left`. -/
inductive Verify (α : Type) where
  | pass
  | fail (left : α)
  deriving DecidableEq, Repr

/-- How far the operation in flight had come when a hardware reset cut it (R117, R121, R122, R127,
R128): nothing changed yet, a header in part, a blank header over a body that is not blank, all
blank, a mark area that is not blank, all written, or a value that reads as uncorrectable. -/
inductive CutPoint where
  | untouched | headerPart | headerBlank | allBlank | marked | complete | garbled
  deriving DecidableEq, Repr

/-- What the medium gives the restore where it no longer reads as it was written; `none` reads as
written (R111, R126, R129). -/
structure RestoreReading where
  settings : Option (Area Settings)
  counter  : Option (Area Nat)
  deriving DecidableEq, Repr

/-- The commands of the LS416, one constructor for each row of spec/opcode_table.json, in the
table's order. -/
inductive Instr where
  /-- ROUND_START (R132). -/
  | roundStart
  /-- ANSWER_FRAME_RECEIVED (R137): the characters received in the window so far (R187). -/
  | answerFrameReceived (rx : List LoopChar)
  /-- ANSWER_WINDOW_CLOSE (R139). -/
  | answerWindowClose
  /-- AUTHORISATION_WINDOW_EXPIRY (R12). -/
  | authorisationWindowExpiry (p : Pedestal)
  /-- STOP_WINDOW_EXPIRY (R18). -/
  | stopWindowExpiry (p : Pedestal)
  /-- LINK_LOSS_TIMER_EXPIRY (R21). -/
  | linkLossTimerExpiry (p : Pedestal)
  /-- RAMP_TIMER_EXPIRY (R52). -/
  | rampTimerExpiry (p : Pedestal)
  /-- OVERSTAY_MINUTE_END (R105). -/
  | overstayMinuteEnd (p : Pedestal)
  /-- TEMPERATURE_COMPLETION (R69). -/
  | temperatureCompletion (f : Feeder) (code : BitVec 12)
  /-- SUPPLY_COMPLETION (R66). -/
  | supplyCompletion (code : BitVec 12)
  /-- RECORD_WRITE_END (R117): the end of one attempt; a first failure goes on to the retry. -/
  | recordWriteEnd (v : WriteVerify)
  /-- SETTLED_MARK_END (R121): a failure leaves the mark area blank or not. -/
  | settledMarkEnd (v : Verify Bool)
  /-- ERASE_END (R122). -/
  | eraseEnd (v : Verify SlotCells)
  /-- RESERVATION_WRITE_END (R127). -/
  | reservationWriteEnd (v : Verify (Area Nat))
  /-- SETTINGS_SAVE_END (R128). -/
  | settingsSaveEnd (v : Verify (Area Settings))
  /-- HARDWARE_RESET_ASSERT (R184). -/
  | hardwareResetAssert (cut : CutPoint)
  /-- HARDWARE_RESET_END (R184). -/
  | hardwareResetEnd
  /-- RESTORE_END (R129). -/
  | restoreEnd (reading : RestoreReading)
  /-- SCAN_END (R124): the slots that no longer read as they were written. -/
  | scanEnd (aged : List (RecordSlot × SlotCells))
  /-- PAY_STATUS, kind 01H (R154). -/
  | payStatus
  /-- NEXT_AUTHORISATION, kind 02H (R155). -/
  | nextAuthorisation
  /-- AUTHORISE, kind 03H (R11). -/
  | authorise (pedestal : Byte) (session hold customerRef : Word32)
  /-- DECLINE, kind 04H (R13). -/
  | decline (pedestal : Byte) (session : Word32)
  /-- CANCEL, kind 05H (R20). -/
  | cancel (pedestal : Byte) (session : Word32)
  /-- VIEW_SESSION, kind 06H (R155). -/
  | viewSession (pedestal : Byte)
  /-- FETCH, kind 07H (R119). -/
  | fetch
  /-- SETTLE, kind 08H (R120). -/
  | settle (session : Word32)
  /-- PAY_ACKNOWLEDGE, kind 09H (R159). -/
  | payAcknowledge (mask : Byte)
  /-- PAY_SET_LEVEL, kind 0AH (R160). -/
  | paySetLevel (cause level : Byte)
  /-- PAY_UNKNOWN_REQUEST (R152): the bytes of a request window, and whether it closed part-way
  through a byte. -/
  | payUnknownRequest (frame : List Byte) (partByte : Bool)
  /-- PAY_READ_WINDOW (R153): how many bytes were clocked out after the read code. -/
  | payReadWindow (clocked : Nat)
  /-- SITE_STATUS, kind 21H (R171). -/
  | siteStatus
  /-- SET_SITE_CEILING, kind 22H (R166). -/
  | setSiteCeiling (ceiling : BitVec 16)
  /-- SET_FEEDER, kind 23H (R166). -/
  | setFeeder (feeder : Byte) (ceiling : BitVec 16) (sensor : Byte) (tlow thigh floor : BitVec 16)
  /-- SET_PEDESTAL, kind 24H (R167). -/
  | setPedestal (pedestal present feeder cls : Byte) (cap : BitVec 16) (rampMode : Byte)
  /-- SET_PARAMETERS, kind 25H (R168). -/
  | setParameters (minGrant step : BitVec 16) (stepInterval : Byte) (slack holdReserve : BitVec 16)
      (tracking startQuiesced : Byte)
  /-- WRITE_TARIFF_ROW, kind 26H (R93). -/
  | writeTariffRow (row valid : Byte) (rate : BitVec 24) (flatFee : BitVec 16) (grace : Byte)
      (perMinute cap : BitVec 16)
  /-- BIND_TARIFF, kind 27H (R95). -/
  | bindTariff (mask : BitVec 16) (row : Byte)
  /-- SET_CLOCK, kind 28H (R169). -/
  | setClock (seconds : Word32)
  /-- QUIESCE, kind 29H (R180). -/
  | quiesce
  /-- RESUME, kind 2AH (R180). -/
  | resume
  /-- READ_ALLOTMENT, kind 2BH (R171). -/
  | readAllotment (pedestal : Byte)
  /-- READ_FEEDER, kind 2CH (R171). -/
  | readFeeder (feeder : Byte)
  /-- SAVE_SETTINGS, kind 2DH (R173). -/
  | saveSettings
  /-- SITE_ACKNOWLEDGE, kind 2EH (R175). -/
  | siteAcknowledge (mask : Byte)
  /-- SITE_SET_LEVEL, kind 2FH (R175). -/
  | siteSetLevel (cause level : Byte)
  /-- SITE_UNKNOWN_REQUEST (R165): the bytes of a write transaction, and whether it ended part-way
  through a byte. -/
  | siteUnknownRequest (frame : List Byte) (partByte : Bool)
  /-- SITE_READ_TRANSACTION (R163): how many bytes the manager clocked. -/
  | siteReadTransaction (clocked : Nat)
  /-- READ_WINDOW_OPENS (R149). -/
  | readWindowOpens
  deriving DecidableEq, Repr

end Sys2Proof
end

