-- ==== Sys2Proof/Decode.lean ====
section
/-! DEFINITION. The command that a word of the opcode table's bits spells. No row of
spec/opcode_table.json gives bits (its counts say n_rows_with_fixed 0 and n_rows_with_fields 0), so
no word spells a command. The commands that do cross a pin as bytes are read by `readPayFrame`,
`readSiteFrame` and `answerFrame` of Machine/Frames.lean. -/

namespace Sys2Proof

/-- The command that an instruction word of `nbits` bits spells: none, for every word. -/
def decodeTableWord (nbits w : Nat) : Option Instr :=
  match nbits, w with
  | _, _ => none

end Sys2Proof
end

