-- ==== Sys2Proof/Config.lean ====
section
/-! DEFINITION. The constants the manual fixes: windows, periods, limits and thresholds, each with
the rule that states it. The manual leaves no value of a step open, so there is no free value here
(notes/assumptions/1.md). -/

namespace Sys2Proof.Config

/-- R12: the authorisation window, in ms. -/
abbrev authorisationWindow : Nat := 120000
/-- R17: the stop window, in ms. -/
abbrev stopWindow : Nat := 15000
/-- R21: the link-loss timer, in ms. -/
abbrev linkLossTimer : Nat := 60000
/-- R105: one overstay minute, in ms. -/
abbrev overstayMinute : Nat := 60000
/-- R185: the largest overstay time its four bytes carry, in ms. -/
abbrev overstayLimit : Nat := 4294967295
/-- R132: the period of the poll rounds, in ms. -/
abbrev roundPeriod : Nat := 100
/-- R133: an exchange lasts at most 2.0 ms. -/
abbrev exchangeLimit : Nat := 2
/-- R51: one unit of the step interval, in ms. -/
abbrev rampUnit : Nat := 200
/-- R79, R82: meter readings and deltas are taken modulo this. -/
abbrev meterModulus : Nat := 1000000000
/-- R88: unbilled energy is held modulo this. -/
abbrev unbilledModulus : Nat := 1000000000000
/-- R84: the standing allowance of the plausibility bound, in Wh. -/
abbrev boundAllowance : Nat := 20
/-- R66: the supply threshold. -/
abbrev supplyThreshold : Nat := 2800
/-- R66: the run counts stop here. -/
abbrev runCountLimit : Nat := 255
/-- R181: the below-run count that is a supply failure. -/
abbrev failRun : Nat := 2
/-- R182: the above-run count that allows the restart. -/
abbrev goodRun : Nat := 20
/-- R115, R6: the number of queued records at which no session opens and BACKLOG holds. -/
abbrev backlogCount : Nat := 32
/-- R6: the largest close sequence. -/
abbrev lastCloseSequence : Nat := 4294967295
/-- R126, R127: the largest reservation limit. -/
abbrev lastReservation : Nat := 4294967296
/-- R127: how many numbers one reservation write adds. -/
abbrev reservationStep : Nat := 64
/-- R127: a reservation is renewed when fewer numbers than this remain. -/
abbrev reservationLow : Nat := 16
/-- R111: the corrected-error count stops here. -/
abbrev correctedLimit : Nat := 65535
/-- R94: the largest number of segments of a session. -/
abbrev segmentLimit : Nat := 8
/-- Table 7.2: the durations of the store operations, in ms. -/
abbrev recordWriteTime : Nat := 6
/-- Table 7.2, R118: a settled mark, and the mark step of a failed record write. -/
abbrev markTime : Nat := 1
/-- Table 7.2: a reservation write. -/
abbrev reservationTime : Nat := 1
/-- Table 7.2, R116: an erase, merged into a write or not. -/
abbrev eraseTime : Nat := 4
/-- Table 7.2: a settings save. -/
abbrev saveTime : Nat := 40
/-- R166: the largest site ceiling stored. -/
abbrev siteCeilingLimit : Nat := 60000
/-- R166: the largest configured feeder ceiling stored. -/
abbrev feederCeilingLimit : Nat := 30000
/-- R167: the largest cap stored. -/
abbrev capLimit : Nat := 4000
/-- R11: the largest hold. -/
abbrev holdLimit : Nat := 9999999
/-- Table 6.1: the largest energy rate. -/
abbrev rateLimit : Nat := 999999

end Sys2Proof.Config
end

