-- ==== Sys2Proof/Machine/State.lean ====
section
/-! DEFINITION. The state of the LS416 as plain data, block by block as the manual's block diagram
has it (00_scope.md section 2), the queue of waiting commands, the reasons a step can stop, and the
state right after reset. Timers are held as the milliseconds they have left
(notes/assumptions/3.md). -/

namespace Sys2Proof.Machine
open Sys2Proof

/-- No command of the LS416 faults: the manual gives every one of them an effect, or none, in every
state. So there is no constructor; nothing raises a fault (safe). -/
inductive Fault where
  deriving DecidableEq, Repr

/-- Why a command could be refused. -/
inductive Refusal where
  /-- Raised by `exec` for a row without a meaning; no arm raises it, because every row has one
  (safe: the machine would stop where the hardware goes on). -/
  | notModelled (mnemonic : String)
  deriving DecidableEq, Repr

/-! ### Account Unit (chapters 1, 5 and 6) -/

/-- A session record (Table 1.1). The segment list of R94 is `earlier` with `current` behind it, so
that it holds at least one segment. -/
structure Session where
  number           : Nat
  state            : SessionState
  stopReason       : Option StopReason
  customerRef      : Option Word32
  hold             : Option Nat
  opened           : ClockStamp
  authorised       : Option ClockStamp
  meterStart       : Option Nat
  lastReading      : Nat
  lastStamp        : Word32
  billed           : Nat
  unbilled         : Nat
  earlier          : List Segment
  current          : Segment
  overstayTime     : Nat
  /-- How many overstay minutes have ended so far, charged or not (R105). -/
  minutesEnded     : Nat
  overstayMinutes  : Nat
  overstayFee      : Nat
  flatFee          : Nat
  parkedBy         : Option ParkedBy
  meterDispute     : Bool
  segmentsFull     : Bool
  stopIgnored      : Bool
  authorisationWindow : Option Nat
  stopWindow       : Option Nat
  linkLossTimer    : Option Nat
  deriving DecidableEq, Repr

/-- A session slot (R1); a slot without a session is FREE. -/
structure SessionSlot where
  session     : Option Session
  refused     : Bool
  unavailable : Bool
  lastEnded   : Nat
  deriving DecidableEq, Repr

/-- The Account Unit: the session table (R1), the authorisation queue as the pedestals of its
sessions, oldest first (R9), the session-number counter and reservation limit (R5), the
close-sequence counter (R22), the tariff table (R91) and the bindings (R92). -/
structure Account where
  slots             : Vector SessionSlot 16
  authQueue         : List Pedestal
  nextNumber        : Nat
  reservationLimit  : Nat
  nextClose         : Nat
  rows              : Vector TariffRow 8
  bindings          : Vector RowIndex 16
  deriving DecidableEq, Repr

/-! ### Allotment Engine (chapters 2, 3 and 4) -/

/-- An allotment table entry (Table 2.1, R47). `tracking` is the tracking cap while tracking is on. -/
structure AllotEntry where
  cfg       : PedestalConfig
  demand    : Nat
  admitted  : Bool
  target    : Nat
  grant     : Nat
  peak      : Nat
  rampTimer : Option Nat
  tracking  : Option Nat
  runCount  : Nat
  deriving DecidableEq, Repr

/-- A feeder table entry (Tables 2.2 and 4.2). -/
structure FeederEntry where
  cfg         : FeederConfig
  effective   : Nat
  latestTemp  : Option Int
  computed    : Option Nat
  applied     : Nat
  sensorFault : Bool
  firstMark   : Bool
  deriving DecidableEq, Repr

/-- The Allotment Engine: the allotment table (R26), the feeder table, the site ceiling and the site
parameters (R27). -/
structure Allotment where
  entries     : Vector AllotEntry 16
  feeders     : Vector FeederEntry 4
  siteCeiling : Nat
  parameters  : Parameters
  deriving DecidableEq, Repr

/-! ### Loop Controller (chapter 8) -/

/-- An accepted report after its reduction (Table 8.3). -/
structure Report where
  state       : ReportState
  stopPressed : Bool
  emergency   : Bool
  request     : Nat
  draw        : Nat
  reading     : Nat
  deriving DecidableEq, Repr

/-- A loop entry (Table 8.1). -/
structure LoopEntry where
  health      : Nat
  link        : LinkState
  recovery    : Nat
  latest      : Option Report
  latestStamp : Option Word32
  deriving DecidableEq, Repr

/-- The exchange in flight (R133): the pedestal polled, and the milliseconds until it is over. -/
structure Exchange where
  pedestal : Pedestal
  left     : Nat
  deriving DecidableEq, Repr

/-- The Loop Controller (R131): `nextRound` is the time left to the next round, absent while the
loop is stopped; `loopTx` is the last poll frame sent. `driverEnable` is the pin LOOP_DE, true when
high; a poll is sent whole within an event, so the pin is low between events
(notes/assumptions/9.md). -/
structure Loop where
  round     : Word32
  entries   : Vector LoopEntry 16
  nextRound : Option Nat
  exchange  : Option Exchange
  loopTx    : List Byte
  driverEnable : Bool
  deriving DecidableEq, Repr

/-! ### Measurement Unit (chapter 4) -/

/-- The Measurement Unit: the scan slot being converted (R64), the latest code of each temperature
channel (R65) and the two supply run counts (R66). -/
structure Measurement where
  scanSlot : Fin 8
  latest   : Vector (Option (BitVec 12)) 4
  belowRun : Nat
  aboveRun : Nat
  deriving DecidableEq, Repr

/-! ### Store Controller (chapter 7) -/

/-- The nonvolatile array (R110). -/
structure NvArray where
  slots    : Vector SlotCells 48
  settings : Area Settings
  counter  : Area Nat
  deriving DecidableEq, Repr

/-- The slot states (Table 7.1). -/
inductive SlotState where
  | free | writing | held | marked | erasing | bad
  deriving DecidableEq, Repr

/-- An item of the work list (R112). Writes and marks name the close sequence of their record. -/
inductive WorkItem where
  | recordWrite (closeSequence : Nat)
  | settledMark (closeSequence : Nat)
  | reservation (limit : Nat)
  | erase (slot : RecordSlot)
  | save (copy : Settings)
  deriving DecidableEq, Repr

/-- An operation in flight (R112, R116, R118): a record write knows its slot, whether an erase is
merged into its start, and whether it is the retry. -/
inductive Operation where
  | recordWrite (closeSequence : Nat) (slot : RecordSlot) (eraseFirst retry : Bool)
  | settledMark (closeSequence : Nat) (slot : RecordSlot)
  | reservation (limit : Nat)
  | erase (slot : RecordSlot)
  | save (copy : Settings)
  deriving DecidableEq, Repr

/-- The operation in flight and the milliseconds to its end. -/
structure Flight where
  op   : Operation
  left : Nat
  deriving DecidableEq, Repr

/-- The state of a queued record (R114). -/
inductive RecordState where
  | writing | presentable | settling
  deriving DecidableEq, Repr

/-- The contents of a queued record: as built, or words read with an uncorrectable error in the
layout of R190. -/
inductive RecordBody where
  | built (r : SettlementRecord)
  | asRead (image : BodyImage)
  deriving DecidableEq, Repr

/-- An entry of the settlement queue (R114). `eraseFirst` says that the claimed slot was MARKED, so
that its erase is merged into the write (R116). -/
structure QueueEntry where
  session       : Nat
  closeSequence : Nat
  body          : RecordBody
  state         : RecordState
  notDurable    : Bool
  corrupt       : Bool
  slot          : Option RecordSlot
  eraseFirst    : Bool
  deriving DecidableEq, Repr

/-- The Store Controller: the array, the slot states, the work list in its two classes, the
operation in flight, the settlement queue with its head first, and the corrected-error count. -/
structure Store where
  array       : NvArray
  slotStates  : Vector SlotState 48
  firstClass  : List WorkItem
  secondClass : List WorkItem
  flight      : Option Flight
  queue       : List QueueEntry
  corrected   : Nat
  deriving DecidableEq, Repr

/-! ### The two ports (chapters 9 and 10) -/

/-- The state of a port (R150, R164). WORKING remembers whether the request in work discarded an
unread reply; REPLY_READY holds the reply frame. -/
inductive PortState where
  | idle
  | working (previousUnread : Bool)
  | replyReady (frame : List Byte)
  deriving DecidableEq, Repr

/-- A notice entry (R157, R174). -/
structure Notice where
  pending : Bool
  level   : Fin 8
  deriving DecidableEq, Repr

/-- The Payment Port. `window` is an open read window and whether it sends the held reply (R149);
`payDo` is what the last read window sent after the read code; `rdy` and `atn` are the pins PAY_RDY
and PAY_ATN, true when asserted (PAY_RDY high, PAY_ATN low). -/
structure PayPort where
  state   : PortState
  dropped : Bool
  notices : Vector Notice 5
  window  : Option Bool
  payDo   : List Byte
  rdy     : Bool
  atn     : Bool
  deriving DecidableEq, Repr

/-- The Site Port. `address` is the target address sampled from ADDR (R161); `siteRead` is what the
last read transaction sent, absent when its address was not acknowledged (R163); `atn` is SITE_ATN,
true when driven low. -/
structure SitePort where
  state    : PortState
  dropped  : Bool
  notices  : Vector Notice 7
  address  : BitVec 7
  siteRead : Option (List Byte)
  atn      : Bool
  deriving DecidableEq, Repr

/-! ### Park Control (chapter 11) -/

/-- The Time Base (R179). -/
structure TimeBase where
  ms       : Word32
  clock    : Word32
  phase    : Nat
  clockSet : Bool
  deriving DecidableEq, Repr

/-- The step of the start-up sequence that is in progress (R177). -/
inductive StartStep where
  | restore | scan
  deriving DecidableEq, Repr

/-- Park Control (R176, R177): the park state, the count of open sessions, the start-up step in
progress, whether the configuration has been restored since the reset (R69), and the
start-quiesced option (R168). -/
structure Park where
  state         : ParkState
  openCount     : Nat
  startStep     : Option StartStep
  restored      : Bool
  startQuiesced : Bool
  deriving DecidableEq, Repr

/-- The whole machine. `resetAsserted` says that RESET_N is held low (R184); `addrPin` is the level
at the ADDR strap (R161); `pending` is the queue of waiting commands, first in, first out. -/
structure State where
  time          : TimeBase
  park          : Park
  account       : Account
  allot         : Allotment
  loop          : Loop
  meas          : Measurement
  store         : Store
  pay           : PayPort
  site          : SitePort
  resetAsserted : Bool
  addrPin       : Bool
  pending       : List Instr
  deriving DecidableEq, Repr

/-! ### The state right after reset -/

/-- R1. -/
def SessionSlot.reset : SessionSlot :=
  { session := none, refused := false, unavailable := false, lastEnded := 0 }

/-- R91: an invalid row whose other fields are 0. -/
def TariffRow.default : TariffRow :=
  { valid := false, tariff := { rate := 0, flatFee := 0, grace := 0, perMinute := 0, cap := 0 } }

/-- Table 2.1's defaults. -/
def PedestalConfig.default : PedestalConfig :=
  { present := false, feeder := .a, cls := 2, cap := 0, rampMode := .soft }

/-- Tables 2.2 and 4.2's defaults. -/
def FeederConfig.default : FeederConfig :=
  { ceiling := 0, sensorEnabled := false, tlow := 700, thigh := 900, floor := 500 }

/-- Table 2.2's defaults. -/
def Parameters.default : Parameters :=
  { minGrant := 60, step := 100, stepInterval := 5, slack := 50, holdReserve := 50,
    trackingOn := true }

/-- The defaults of every item of the settings area (R129). -/
def Settings.default : Settings :=
  { pedestals := Vector.replicate 16 PedestalConfig.default
    bindings := Vector.replicate 16 0
    feeders := Vector.replicate 4 FeederConfig.default
    siteCeiling := 0
    parameters := Parameters.default
    rows := Vector.replicate 8 TariffRow.default
    payLevels := Vector.replicate 5 4
    siteLevels := Vector.replicate 7 4
    startQuiesced := false }

/-- Table 2.1 after a reset, before the restore (notes/assumptions/4.md for the configuration). -/
def AllotEntry.reset : AllotEntry :=
  { cfg := PedestalConfig.default, demand := 0, admitted := false, target := 0, grant := 0, peak := 0,
    rampTimer := none, tracking := none, runCount := 0 }

/-- Tables 2.2 and 4.2 after a reset, before the restore. -/
def FeederEntry.reset : FeederEntry :=
  { cfg := FeederConfig.default, effective := 0, latestTemp := none, computed := none,
    applied := 1000, sensorFault := false, firstMark := true }

/-- Table 8.1. -/
def LoopEntry.reset : LoopEntry :=
  { health := 0, link := .good, recovery := 0, latest := none, latestStamp := none }

/-- R157, R174: not pending, at level 4. -/
def Notice.reset : Notice := { pending := false, level := 4 }

/-- R161: the target address that a level at ADDR selects. -/
def siteAddress (addrHigh : Bool) : BitVec 7 := if addrHigh then 0x2D else 0x2C

/-- The machine right after a reset ends, over the array, the strap level and the waiting commands
that the reset leaves alone (R183, R184). The start-up sequence begins with the restore (R177). -/
def State.afterReset (array : NvArray) (addrPin : Bool) (pending : List Instr) : State :=
  { time := { ms := 0, clock := 0, phase := 0, clockSet := false }
    park := { state := .starting, openCount := 0, startStep := some .restore, restored := false,
              startQuiesced := false }
    account := { slots := Vector.replicate 16 SessionSlot.reset, authQueue := [], nextNumber := 1,
                 reservationLimit := 1, nextClose := 1,
                 rows := Vector.replicate 8 TariffRow.default, bindings := Vector.replicate 16 0 }
    allot := { entries := Vector.replicate 16 AllotEntry.reset,
               feeders := Vector.replicate 4 FeederEntry.reset,
               siteCeiling := 0, parameters := Parameters.default }
    loop := { round := 0, entries := Vector.replicate 16 LoopEntry.reset, nextRound := none,
              exchange := none, loopTx := [], driverEnable := false }
    meas := { scanSlot := 0, latest := Vector.replicate 4 none, belowRun := 0, aboveRun := 0 }
    store := { array := array, slotStates := Vector.replicate 48 .free, firstClass := [],
               secondClass := [], flight := none, queue := [], corrected := 0 }
    pay := { state := .idle, dropped := false, notices := Vector.replicate 5 Notice.reset,
             window := none, payDo := [], rdy := false, atn := false }
    site := { state := .idle, dropped := false, notices := Vector.replicate 7 Notice.reset,
              address := siteAddress addrPin, siteRead := none, atn := false }
    resetAsserted := false
    addrPin := addrPin
    pending := pending }

/-- A nonvolatile array that holds nothing (notes/assumptions/4.md). -/
def NvArray.blank : NvArray :=
  { slots := Vector.replicate 48 SlotCells.blank
    settings := { contents := .blank, singles := 0 }
    counter := { contents := .blank, singles := 0 } }

/-- The machine right after reset: a blank array, ADDR low, no command waiting. -/
def State.reset : State := State.afterReset NvArray.blank false []

end Sys2Proof.Machine
end

