-- ==== Sys2Proof/Machine/Operands.lean ====
section
/-! DEFINITION. The fields of frames: numbers as bytes, most significant byte first (chapter 12), the
codes of Table 12.2, optional fields and stamps (R185), the check value (R188), and the clamps and
ranges of the request arguments (R166 to R168). -/

namespace Sys2Proof.Machine
open Sys2Proof

/-! ### Bytes -/

/-- The `width` low bytes of a number, most significant byte first (00_scope.md section 4). -/
def bytesOf : Nat → Nat → List Byte
  | 0, _ => []
  | width + 1, v => bytesOf width (v / 256) ++ [BitVec.ofNat 8 v]

/-- The number that bytes spell, most significant byte first. -/
def numberOf (bytes : List Byte) : Nat := bytes.foldl (fun acc b => acc * 256 + b.toNat) 0

/-- A signed field of `width` bytes in two's complement (chapter 12). -/
def signedBytes (width : Nat) (v : Int) : List Byte := bytesOf width (v % (256 : Int) ^ width).toNat

/-- A yes/no or ON/OFF byte (Table 12.2). -/
def flagByte (b : Bool) : Byte := if b then 1 else 0

/-- A byte whose bit n is the n-th flag of the list (R189). -/
def flagBits : List Bool → Nat
  | [] => 0
  | b :: rest => b.toNat + 2 * flagBits rest

/-- R185: a field that may be absent: a presence byte, then the value bytes, zeros when absent. -/
def optionalField (width : Nat) : Option Nat → List Byte
  | none => 0 :: bytesOf width 0
  | some v => 1 :: bytesOf width v

/-- R185: an optional signed field. -/
def optionalSigned (width : Nat) : Option Int → List Byte
  | none => 0 :: bytesOf width 0
  | some v => 1 :: signedBytes width v

/-- Table 12.1: a park clock stamp; bit 0 of its flag byte is CLOCK_SET and bit 7 PRESENT. -/
def stampBytes (c : ClockStamp) : List Byte :=
  (if c.clockSet then 0x81 else 0x80) :: bytesOf 4 c.seconds.toNat

/-- R185: an absent stamp is five zero bytes. -/
def optionalStamp : Option ClockStamp → List Byte
  | none => bytesOf 5 0
  | some c => stampBytes c

/-! ### The check value (R136, R188) -/

/-- One bit of the CRC-16 register, polynomial 1021H, without reflection. -/
def crcShift (c : BitVec 16) : BitVec 16 := if c.msb then (c <<< 1) ^^^ 0x1021 else c <<< 1

/-- One byte into the register, most significant bit first. -/
def crcByte (c : BitVec 16) (b : Byte) : BitVec 16 :=
  crcShift (crcShift (crcShift (crcShift (crcShift (crcShift (crcShift (crcShift
    (c ^^^ (b.zeroExtend 16 <<< 8)))))))))

/-- R136: the CRC-16 over a run of bytes, initial value all ones, no final inversion. -/
def crc16 (bytes : List Byte) : BitVec 16 := bytes.foldl crcByte 0xFFFF

/-- R188: a start byte and its fields, closed by the check value, high byte first. -/
def closeFrame (start : Byte) (fields : List Byte) : List Byte :=
  start :: fields ++ bytesOf 2 (crc16 fields).toNat

/-- R188: the last two bytes of `rest`, which follows a start byte, are the check value of the bytes
before them. -/
def checkHolds (rest : List Byte) : Bool :=
  decide (2 ≤ rest.length) &&
    decide (rest.drop (rest.length - 2) = bytesOf 2 (crc16 (rest.take (rest.length - 2))).toNat)

/-! ### The codes of Table 12.2 -/

def Feeder.code : Feeder → Nat
  | .a => 0 | .b => 1 | .c => 2 | .d => 3

/-- The place of a feeder in the feeder table. -/
def Feeder.idx : Feeder → Fin 4
  | .a => 0 | .b => 1 | .c => 2 | .d => 3

/-- The feeder a code names, if any (R166). -/
def feederOf (code : Byte) : Option Feeder :=
  match code.toNat with
  | 0 => some .a | 1 => some .b | 2 => some .c | 3 => some .d | _ => none

/-- The yes/no or ON/OFF that a code names, if any (R189). -/
def flagOf (code : Byte) : Option Bool :=
  match code.toNat with
  | 0 => some false | 1 => some true | _ => none

def RampMode.code : RampMode → Nat
  | .hard => 0 | .soft => 1

/-- The ramp mode a code names, if any. -/
def rampModeOf (code : Byte) : Option RampMode :=
  match code.toNat with
  | 0 => some .hard | 1 => some .soft | _ => none

/-- The pedestal a byte names, if it is at most 15 (R10, R155, R171). -/
def pedestalOf (code : Byte) : Option Pedestal :=
  if h : code.toNat < 16 then some ⟨code.toNat, h⟩ else none

/-- The tariff row a byte names, if it is at most 7 (R93, R95). -/
def rowOf (code : Byte) : Option RowIndex :=
  if h : code.toNat < 8 then some ⟨code.toNat, h⟩ else none

/-- The class a byte names, if it is at most 3 (R167). -/
def classOf (code : Byte) : Option (Fin 4) :=
  if h : code.toNat < 4 then some ⟨code.toNat, h⟩ else none

def LinkState.code : LinkState → Nat
  | .good => 0 | .doubtful => 1 | .lost => 2

def ParkState.code : ParkState → Nat
  | .starting => 0 | .open => 1 | .draining => 2 | .quiesced => 3 | .powerFail => 4

def SessionState.code : SessionState → Nat
  | .authorising => 1 | .ready => 2 | .delivering => 3 | .stopping => 4 | .parked => 5

/-- The report state a code names, if any (R136). -/
def reportStateOf (code : Byte) : Option ReportState :=
  match code.toNat with
  | 0 => some .idle | 1 => some .plugged | 2 => some .charging | 3 => some .complete
  | 4 => some .fault | _ => none

def StopReason.code : StopReason → Nat
  | .hold => 1 | .customerStop => 2 | .pedestalFault => 3 | .emergency => 4 | .cancelled => 5

def CloseReason.code : CloseReason → Nat
  | .unplugged => 0 | .hold => 1 | .customerStop => 2 | .pedestalFault => 3 | .emergency => 4
  | .cancelled => 5 | .linkLost => 6 | .powerFail => 7

/-- R23: the close reason that a stop reason becomes. -/
def StopReason.close : StopReason → CloseReason
  | .hold => .hold | .customerStop => .customerStop | .pedestalFault => .pedestalFault
  | .emergency => .emergency | .cancelled => .cancelled

def ParkedBy.code : ParkedBy → Nat
  | .complete => 0 | .stop => 1

/-- The outcomes of a reply (Table 12.2). -/
inductive OutcomeCode where
  | done | doneClamped | range | busyPedestal | noSession | late | wrongState | alreadyEnding
  | empty | notHead | unknown | invalidRow | rowBound | unknownKind | badFrame | notReady | fault
  | powerFail
  deriving DecidableEq, Repr

def OutcomeCode.code : OutcomeCode → Nat
  | .done => 0x00 | .doneClamped => 0x01 | .range => 0x02 | .busyPedestal => 0x03
  | .noSession => 0x04 | .late => 0x05 | .wrongState => 0x06 | .alreadyEnding => 0x07
  | .empty => 0x08 | .notHead => 0x09 | .unknown => 0x0A | .invalidRow => 0x0B
  | .rowBound => 0x0C | .unknownKind => 0x0D | .badFrame => 0x0E | .notReady => 0x0F
  | .fault => 0x10 | .powerFail => 0x11

/-- The cancel results (Table 12.2). -/
inductive CancelResult where
  | voided | closed | stopping
  deriving DecidableEq, Repr

def CancelResult.code : CancelResult → Nat
  | .voided => 0 | .closed => 1 | .stopping => 2

/-! ### Clamps -/

/-- R168: a value raised to the lower end of its range or lowered to the upper end. -/
def clamp (lo hi v : Nat) : Nat := max lo (min hi v)

/-- R166: DONE_CLAMPED where a value was clamped, else DONE. -/
def doneIf (asSent : Bool) : OutcomeCode := if asSent then .done else .doneClamped

end Sys2Proof.Machine
end

