-- ==== Sys2Proof/Machine/Ops.lean ====
section
/-! DEFINITION. The named operations over the tables of the state (one cell read, one cell written,
a table mapped), the accessors of the blocks' entries, and the passing of time (R179). -/

namespace Sys2Proof.Machine
open Sys2Proof

/-! ### Tables -/

/-- The cell of a table at an index. -/
def cell {α : Type} {n : Nat} (v : Vector α n) (i : Fin n) : α := v[i.val]

/-- The table with one cell replaced. -/
def putCell {α : Type} {n : Nat} (v : Vector α n) (i : Fin n) (x : α) : Vector α n :=
  v.set i.val x i.isLt

/-- The table with every cell mapped, the index at hand. -/
def mapCells {α β : Type} {n : Nat} (f : Fin n → α → β) (v : Vector α n) : Vector β n :=
  Vector.ofFn fun i => f i (cell v i)

/-! ### Entries of the blocks -/

/-- The session slot of a pedestal (R1). -/
def State.slot (s : State) (p : Pedestal) : SessionSlot := cell s.account.slots p

/-- The session of a pedestal's slot, if it is not FREE. -/
def State.session (s : State) (p : Pedestal) : Option Session := (s.slot p).session

/-- Replaces a pedestal's session slot. -/
def State.putSlot (s : State) (p : Pedestal) (x : SessionSlot) : State :=
  { s with account := { s.account with slots := putCell s.account.slots p x } }

/-- Replaces the session of a pedestal's slot and leaves the slot's flags alone. -/
def State.putSession (s : State) (p : Pedestal) (x : Session) : State :=
  s.putSlot p { s.slot p with session := some x }

/-- The allotment entry of a pedestal (R26). -/
def State.entry (s : State) (p : Pedestal) : AllotEntry := cell s.allot.entries p

/-- Replaces a pedestal's allotment entry. -/
def State.putEntry (s : State) (p : Pedestal) (e : AllotEntry) : State :=
  { s with allot := { s.allot with entries := putCell s.allot.entries p e } }

/-- The feeder table's entry of a feeder (R27). -/
def State.feeder (s : State) (f : Feeder) : FeederEntry := cell s.allot.feeders (Feeder.idx f)

/-- Replaces a feeder's entry. -/
def State.putFeeder (s : State) (f : Feeder) (e : FeederEntry) : State :=
  { s with allot := { s.allot with feeders := putCell s.allot.feeders (Feeder.idx f) e } }

/-- The loop entry of a pedestal (R131). -/
def State.loopEntry (s : State) (p : Pedestal) : LoopEntry := cell s.loop.entries p

/-- Replaces a pedestal's loop entry. -/
def State.putLoopEntry (s : State) (p : Pedestal) (e : LoopEntry) : State :=
  { s with loop := { s.loop with entries := putCell s.loop.entries p e } }

/-- R31, R147: the request of the latest accepted report, 0 when there is none. -/
def LoopEntry.request (e : LoopEntry) : Nat :=
  match e.latest with
  | some r => r.request
  | none => 0

/-- The park clock stamp that stands now (R179). -/
def State.clockNow (s : State) : ClockStamp :=
  { seconds := s.time.clock, clockSet := s.time.clockSet }

/-- R176: the number of slots that hold a session. -/
def State.occupied (s : State) : Nat :=
  (pedestals.filter fun p => (s.session p).isSome).length

/-- R4: the session counts for power. -/
def SessionState.counts : SessionState → Bool
  | .ready | .delivering => true
  | _ => false

/-- R4: the pedestal's session is in READY or DELIVERING. -/
def State.countsForPower (s : State) (p : Pedestal) : Bool :=
  match s.session p with
  | some x => SessionState.counts x.state
  | none => false

/-- R21: READY, DELIVERING, STOPPING and PARKED, the states of an authorised session. -/
def SessionState.isAuthorised : SessionState → Bool
  | .authorising => false
  | _ => true

/-! ### Time (R179) -/

/-- A timer with `n` milliseconds less to run; it stands at 0 when it is due. -/
def runDown (n : Nat) (t : Option Nat) : Option Nat := t.map (· - n)

/-- R179: the Time Base `n` milliseconds on: the counter and the clock wrap, the phase carries. -/
def TimeBase.advance (n : Nat) (t : TimeBase) : TimeBase :=
  { t with
    ms := t.ms + BitVec.ofNat 32 n
    clock := t.clock + BitVec.ofNat 32 ((t.phase + n) / 1000)
    phase := (t.phase + n) % 1000 }

/-- R12, R17, R21: a session's windows run down in every state. R19, R185: its overstay time grows
while it is PARKED, and stops at the limit. -/
def Session.advance (n : Nat) (x : Session) : Session :=
  { x with
    authorisationWindow := runDown n x.authorisationWindow
    stopWindow := runDown n x.stopWindow
    linkLossTimer := runDown n x.linkLossTimer
    overstayTime :=
      if x.state = .parked then min (x.overstayTime + n) Config.overstayLimit else x.overstayTime }

/-- `n` milliseconds pass: the Time Base, every window and timer, the overstay times, the round
period, the exchange and the store operation in flight. -/
def State.advance (n : Nat) (s : State) : State :=
  { s with
    time := s.time.advance n
    account := { s.account with
      slots := mapCells (fun _ x => { x with session := x.session.map (Session.advance n) })
        s.account.slots }
    allot := { s.allot with
      entries := mapCells (fun _ e => { e with rampTimer := runDown n e.rampTimer })
        s.allot.entries }
    loop := { s.loop with
      nextRound := runDown n s.loop.nextRound
      exchange := s.loop.exchange.map fun x => { x with left := x.left - n } }
    store := { s.store with
      flight := s.store.flight.map fun x => { x with left := x.left - n } } }

/-- R179, notes/assumptions/2.md: the moment at which a running timer is due: time passes until it
has nothing left to run. -/
def State.advanceTo (left : Nat) (s : State) : State := s.advance left

end Sys2Proof.Machine
end

