-- ==== Sys2Proof/Machine/Flags.lean ====
section
/-! DEFINITION. The notices of the two ports (R157 to R160, R174, R175): causes, raises, conditions,
the highest pending cause, acknowledgement, and the pins that follow them. -/

namespace Sys2Proof.Machine
open Sys2Proof

/-- The payment causes (R157). -/
inductive PayCause where
  | authPending | recordReady | holdStop | backlog | storeFault
  deriving DecidableEq, Repr

/-- The number of a payment cause (R157). -/
def PayCause.idx : PayCause → Fin 5
  | .authPending => 0 | .recordReady => 1 | .holdStop => 2 | .backlog => 3 | .storeFault => 4

/-- The site causes (R174). -/
inductive SiteCause where
  | linkChange | derateChange | sensorFault | storeFault | settingsLost | parkState | meterDispute
  deriving DecidableEq, Repr

/-- The number of a site cause (R174). -/
def SiteCause.idx : SiteCause → Fin 7
  | .linkChange => 0 | .derateChange => 1 | .sensorFault => 2 | .storeFault => 3
  | .settingsLost => 4 | .parkState => 5 | .meterDispute => 6

/-- A notice table with one pending flag written; the level stays. -/
def setPending {n : Nat} (v : Vector Notice n) (i : Fin n) (b : Bool) : Vector Notice n :=
  putCell v i { cell v i with pending := b }

/-- A notice table with one level written; the pending flag stays (R160, R175). -/
def setLevel {n : Nat} (v : Vector Notice n) (i : Fin n) (level : Fin 8) : Vector Notice n :=
  putCell v i { cell v i with level := level }

/-- A notice table with the levels that the restore gives it (R129). -/
def withLevels {n : Nat} (v : Vector Notice n) (levels : Vector (Fin 8) n) : Vector Notice n :=
  mapCells (fun i x => { x with level := cell levels i }) v

/-- R158, R174: at least one cause is pending at a level of 1 or more. -/
def attention {n : Nat} (v : Vector Notice n) : Bool :=
  v.toList.any fun x => x.pending && decide (1 ≤ x.level.val)

/-- The choice of R158 over the causes from number `i` on: the highest level first, and among equal
levels the lowest number. -/
def highestFrom : Nat → List Notice → Option (Nat × Nat)
  | _, [] => none
  | i, x :: rest =>
    let later := highestFrom (i + 1) rest
    if x.pending && decide (1 ≤ x.level.val) then
      match later with
      | some (j, l) => if x.level.val < l then some (j, l) else some (i, x.level.val)
      | none => some (i, x.level.val)
    else later

/-- R158, R174: the highest pending cause and its level, if any. -/
def highest {n : Nat} (v : Vector Notice n) : Option (Nat × Nat) := highestFrom 0 v.toList

/-- The pending flags as one number, bit n for cause n (R189). -/
def pendingBits {n : Nat} (v : Vector Notice n) : Nat := flagBits (v.toList.map (·.pending))

/-- R159, R175: clears the pending flags that the mask names, but for the condition causes. -/
def acknowledge {n : Nat} (v : Vector Notice n) (mask : Byte) (condition : Fin n → Bool) :
    Vector Notice n :=
  mapCells (fun i x =>
    if mask.getLsbD i.val && !condition i then { x with pending := false } else x) v

/-- R157: AUTH_PENDING, RECORD_READY and BACKLOG are condition causes. -/
def payCondition (i : Fin 5) : Bool := i = 0 || i = 1 || i = 3

/-- R174: SENSOR_FAULT is a condition cause. -/
def siteCondition (i : Fin 7) : Bool := i = 2

/-- Raises an event cause of the Payment Port (R157). -/
def State.raisePay (s : State) (c : PayCause) : State :=
  { s with pay := { s.pay with notices := setPending s.pay.notices c.idx true } }

/-- Raises an event cause of the Site Port (R174). -/
def State.raiseSite (s : State) (c : SiteCause) : State :=
  { s with site := { s.site with notices := setPending s.site.notices c.idx true } }

/-- A store fault raises STORE_FAULT on both ports (R116, R118, R121, R122, R127, R128). -/
def State.raiseStoreFault (s : State) : State := (s.raisePay .storeFault).raiseSite .storeFault

/-- R115: the head of the settlement queue is PRESENTABLE. -/
def Store.headReady (st : Store) : Bool :=
  match st.queue with
  | e :: _ => decide (e.state = .presentable)
  | [] => false

/-- R115: the queue holds 32 records or more. -/
def Store.backlog (st : Store) : Bool := decide (Config.backlogCount ≤ st.queue.length)

/-- R72: a feeder with its sensor enabled has its sensor fault set. -/
def Allotment.sensorFault (a : Allotment) : Bool :=
  a.feeders.toList.any fun f => f.cfg.sensorEnabled && f.sensorFault

/-- The payment notices with the condition causes at their conditions (R157). -/
def State.payNotices (s : State) : Vector Notice 5 :=
  setPending
    (setPending
      (setPending s.pay.notices PayCause.authPending.idx (!s.account.authQueue.isEmpty))
      PayCause.recordReady.idx s.store.headReady)
    PayCause.backlog.idx s.store.backlog

/-- The site notices with SENSOR_FAULT at its condition (R174). -/
def State.siteNotices (s : State) : Vector Notice 7 :=
  setPending s.site.notices SiteCause.sensorFault.idx s.allot.sensorFault

/-- R150: PAY_RDY is high in REPLY_READY. -/
def PortState.ready : PortState → Bool
  | .replyReady _ => true
  | _ => false

/-- At the end of an event the condition causes stand at their conditions and the pins follow: PAY_RDY
the port state (R150), PAY_ATN and SITE_ATN the notices (R158, R174). -/
def State.drive (s : State) : State :=
  { s with
    pay := { s.pay with
      notices := s.payNotices
      rdy := s.pay.state.ready
      atn := attention s.payNotices }
    site := { s.site with
      notices := s.siteNotices
      atn := attention s.siteNotices } }

end Sys2Proof.Machine
end

