-- ==== Sys2Proof/Machine/Allot.lean ====
section
/-! DEFINITION. The Allotment Engine: the six stages of the recompute (R30 to R38), the grant rules
(R48 to R53), and the causes of a recompute (R29). -/

namespace Sys2Proof.Machine
open Sys2Proof

/-! ### Stage 1: effective demand -/

/-- R31, R32: the effective demand of a pedestal. -/
def State.demandOf (s : State) (p : Pedestal) : Nat :=
  let e := s.entry p
  let l := s.loopEntry p
  if e.cfg.present && s.countsForPower p && l.link != .lost then
    let asked := min l.request e.cfg.cap
    let tracked := match e.tracking with
      | some c => min asked c
      | none => asked
    if l.link = .doubtful then min tracked e.grant else tracked
  else 0

/-! ### Stage 2: the ceilings -/

/-- R33: the effective ceiling of a feeder. -/
def FeederEntry.ceilingNow (f : FeederEntry) : Nat := f.cfg.ceiling * f.applied / 1000

/-! ### Stage 3: the list -/

/-- A listed pedestal: what stages 3 to 5 read of it, and the share `g` it has been given. -/
structure Bid where
  pedestal : Pedestal
  feeder   : Feeder
  cls      : Fin 4
  session  : Nat
  demand   : Nat
  g        : Nat
  deriving DecidableEq, Repr

/-- R34: the order of the list: by class, then by session number. -/
def Bid.before (x y : Bid) : Bool :=
  decide (x.cls < y.cls) || (decide (x.cls = y.cls) && decide (x.session < y.session))

/-- Puts a bid in its place in an ordered list. -/
def insertBid (x : Bid) : List Bid → List Bid
  | [] => [x]
  | y :: rest => if x.before y then x :: y :: rest else y :: insertBid x rest

/-- The number of the pedestal's session, 0 when its slot is FREE (R25, R34). -/
def State.sessionNumber (s : State) (p : Pedestal) : Nat :=
  match s.session p with
  | some x => x.number
  | none => 0

/-- R34: the bid of a pedestal, which is listed when its effective demand is above 0. -/
def State.bidOf (s : State) (p : Pedestal) : Bid :=
  { pedestal := p, feeder := (s.entry p).cfg.feeder, cls := (s.entry p).cfg.cls,
    session := s.sessionNumber p, demand := s.demandOf p, g := 0 }

/-- R34: the list, in its order. -/
def State.bidList (s : State) : List Bid :=
  ((pedestals.map s.bidOf).filter fun b => decide (0 < b.demand)).foldr insertBid []

/-! ### Stages 4 and 5: admission and sharing -/

/-- What is left of the site ceiling and of the four effective ceilings. -/
structure Room where
  site    : Nat
  feeders : Vector Nat 4
  deriving DecidableEq, Repr

/-- What is left of a feeder's effective ceiling. -/
def Room.feeder (r : Room) (f : Feeder) : Nat := cell r.feeders (Feeder.idx f)

/-- An amount taken from the site's and a feeder's remainder. -/
def Room.take (r : Room) (f : Feeder) (amount : Nat) : Room :=
  { site := r.site - amount, feeders := putCell r.feeders (Feeder.idx f) (r.feeder f - amount) }

/-- R35: the base of a listed pedestal. -/
def Bid.base (b : Bid) (minGrant : Nat) : Nat := min b.demand minGrant

/-- R35: the base of the pedestal fits the site's and its feeder's remainder. -/
def Bid.fits (b : Bid) (minGrant : Nat) (r : Room) : Bool :=
  decide (b.base minGrant ≤ r.site) && decide (b.base minGrant ≤ r.feeder b.feeder)

/-- R35: the walk of the list: the remainders after it, and the admitted pedestals with their bases,
in list order. -/
def admission (minGrant : Nat) : Room → List Bid → Room × List Bid
  | r, [] => (r, [])
  | r, b :: rest =>
    if b.fits minGrant r then
      let later := admission minGrant (r.take b.feeder (b.base minGrant)) rest
      (later.1, { b with g := b.base minGrant } :: later.2)
    else admission minGrant r rest

/-- R37: the pedestal is in U, given the remainders at the start of the round. -/
def Bid.inU (start : Room) (b : Bid) : Bool :=
  decide (b.g < b.demand) && decide (0 < start.feeder b.feeder)

/-- R37, step 4: one round over a class in list order, U as it stood at the round's start. -/
def shareRound (start : Room) (share : Nat) : Room → List Bid → Room × List Bid
  | r, [] => (r, [])
  | r, b :: rest =>
    let inc :=
      if b.inU start && decide (0 < r.site) then min (b.demand - b.g) (min share (r.feeder b.feeder))
      else 0
    let later := shareRound start share (r.take b.feeder inc) rest
    (later.1, { b with g := b.g + inc } :: later.2)

/-- R37: the rounds of one class. A round that does not end the class takes at least one unit from
the site's remainder, so as many rounds as it has units are enough. -/
def shareClass : Nat → Room → List Bid → Room × List Bid
  | 0, r, bids => (r, bids)
  | fuel + 1, r, bids =>
    let waiting := (bids.filter (Bid.inU r)).length
    if waiting = 0 || r.site = 0 then (r, bids)
    else
      let round := shareRound r (max 1 (r.site / waiting)) r bids
      shareClass fuel round.1 round.2

/-- R36: the headroom is offered class by class in ascending order. -/
def shareClasses : List (Fin 4) → Room → List Bid → List Bid
  | [], _, _ => []
  | c :: rest, r, bids =>
    let served := shareClass r.site r (bids.filter fun b => decide (b.cls = c))
    served.2 ++ shareClasses rest served.1 bids

/-- Stages 3 to 5: the admitted pedestals with their final shares. -/
def State.allotted (s : State) : List Bid :=
  let room : Room :=
    { site := s.allot.siteCeiling
      feeders := mapCells (fun _ f => f.ceilingNow) s.allot.feeders }
  let admitted := admission s.allot.parameters.minGrant room s.bidList
  shareClasses [0, 1, 2, 3] admitted.1 admitted.2

/-- The final share of a pedestal, absent when it is not admitted. -/
def shareOf (p : Pedestal) : List Bid → Option Nat
  | [] => none
  | b :: rest => if b.pedestal = p then some b.g else shareOf p rest

/-! ### Stage 6: targets and grants -/

/-- R51: the period of a ramp timer. -/
def rampPeriod (q : Parameters) : Nat := q.stepInterval * Config.rampUnit

/-- R56: a write of the grant raises the peak grant to it. -/
def AllotEntry.writeGrant (e : AllotEntry) (g : Nat) : AllotEntry :=
  { e with grant := g, peak := max e.peak g }

/-- R50: the jump of a SOFT pedestal. -/
def AllotEntry.jump (e : AllotEntry) (minGrant : Nat) : Nat :=
  if e.grant < min e.target minGrant then min e.target minGrant else e.grant

/-- R50, R51, R53: the timer of a SOFT pedestal whose grant is still below its target is left
running, or armed. -/
def AllotEntry.armed (e : AllotEntry) (period : Nat) : Option Nat :=
  match e.rampTimer with
  | some left => some left
  | none => some period

/-- R48 to R50: the grant follows the new target that stands in the entry. -/
def AllotEntry.follow (q : Parameters) (e : AllotEntry) : AllotEntry :=
  if e.target ≤ e.grant then { e.writeGrant e.target with rampTimer := none }
  else match e.cfg.rampMode with
    | .hard => { e.writeGrant e.target with rampTimer := none }
    | .soft =>
      { e.writeGrant (e.jump q.minGrant) with
        rampTimer := if e.jump q.minGrant < e.target then e.armed (rampPeriod q) else none }

/-- R38: stage 6 for one pedestal: demand, admitted flag and target, then the grant rules. -/
def AllotEntry.settleTarget (q : Parameters) (demand : Nat) (share : Option Nat) (e : AllotEntry) :
    AllotEntry :=
  AllotEntry.follow q
    { e with demand := demand, admitted := share.isSome, target := share.getD 0 }

/-- R30: one recompute. -/
def State.recompute (s : State) : State :=
  { s with allot := { s.allot with
      entries := mapCells (fun p e =>
        AllotEntry.settleTarget s.allot.parameters (s.demandOf p) (shareOf p s.allotted) e)
        s.allot.entries
      feeders := mapCells (fun _ f => { f with effective := f.ceilingNow }) s.allot.feeders } }

/-! ### When the Engine recomputes (R29) -/

/-- R29: an input of the recompute that belongs to a pedestal changed within the event: the stored
request, the session's membership of READY and DELIVERING, the link state, or draw tracking. (A
lowering that leaves the tracking cap where it stood is `State.answerLowers`.) -/
def pedestalCause (before after : State) (p : Pedestal) : Bool :=
  (before.loopEntry p).request != (after.loopEntry p).request
    || before.countsForPower p != after.countsForPower p
    || (before.loopEntry p).link != (after.loopEntry p).link
    || (before.entry p).tracking != (after.entry p).tracking

/-- R29, R73: the applied factor of a feeder changed within the event. -/
def factorCause (before after : State) : Bool :=
  [Feeder.a, .b, .c, .d].any fun f => (before.feeder f).applied != (after.feeder f).applied

/-- R29: the event has a cause for a recompute. -/
def recomputeCause (before after : State) : Bool :=
  pedestals.any (pedestalCause before after) || factorCause before after

/-- R29: the single recompute at the end of an event that has a cause for one. -/
def recomputeAfter (before after : State) : State :=
  if recomputeCause before after then after.recompute else after

/-! ### The ramp timer (R52) -/

/-- R52: the grant rises by the step toward the target, and the timer is armed again or stopped. -/
def AllotEntry.rampStep (q : Parameters) (e : AllotEntry) : AllotEntry :=
  { e.writeGrant (min e.target (e.grant + q.step)) with
    rampTimer := if min e.target (e.grant + q.step) < e.target then some (rampPeriod q) else none }

/-- R56: an accepted report's reset of the peak grant. -/
def AllotEntry.resetPeak (e : AllotEntry) : AllotEntry := { e with peak := e.grant }

/-- R61: tracking, where it is on, ends. -/
def AllotEntry.endTracking (e : AllotEntry) : AllotEntry :=
  match e.tracking with
  | some _ => { e with tracking := none, runCount := 0 }
  | none => e

/-- R41: the sum of the current grants of the pedestals assigned to a feeder. -/
def State.feederGrants (s : State) (f : Feeder) : Nat :=
  (pedestals.map fun p => if (s.entry p).cfg.feeder = f then (s.entry p).grant else 0).sum

end Sys2Proof.Machine
end

