-- ==== Sys2Proof/Machine/Store.lean ====
section
/-! DEFINITION. The Store Controller's shared operations: claims (R116), the start of work (R112), the
end of a record's write (R117, R118), reservations (R127), the settlement queue (R114, R120), the
settings (R128), and what a cut operation leaves in the array (R117, R121, R122, R127, R128). -/

namespace Sys2Proof.Machine
open Sys2Proof

/-! ### Slots and queue entries -/

/-- The state of a record slot (Table 7.1). -/
def State.slotState (s : State) (i : RecordSlot) : SlotState := cell s.store.slotStates i

/-- Writes the state of a record slot. -/
def State.putSlotState (s : State) (i : RecordSlot) (x : SlotState) : State :=
  { s with store := { s.store with slotStates := putCell s.store.slotStates i x } }

/-- What the array holds in a record slot. -/
def State.slotCells (s : State) (i : RecordSlot) : SlotCells := cell s.store.array.slots i

/-- Writes what the array holds in a record slot. -/
def State.putSlotCells (s : State) (i : RecordSlot) (x : SlotCells) : State :=
  { s with store := { s.store with array := { s.store.array with
      slots := putCell s.store.array.slots i x } } }

/-- The record that a close sequence names: the one nearest the head (notes/assumptions/29.md). -/
def State.queued (s : State) (closeSequence : Nat) : Option QueueEntry :=
  s.store.queue.find? fun e => decide (e.closeSequence = closeSequence)

/-- A queue with the record that a close sequence names replaced. -/
def updateNamed (n : Nat) (f : QueueEntry → QueueEntry) : List QueueEntry → List QueueEntry
  | [] => []
  | e :: rest => if e.closeSequence = n then f e :: rest else e :: updateNamed n f rest

/-- A queue without the record that a close sequence names. -/
def dropNamed (n : Nat) : List QueueEntry → List QueueEntry
  | [] => []
  | e :: rest => if e.closeSequence = n then rest else e :: dropNamed n rest

/-- Replaces the record that a close sequence names; no other record is touched. -/
def State.updateQueued (s : State) (closeSequence : Nat) (f : QueueEntry → QueueEntry) : State :=
  { s with store := { s.store with queue := updateNamed closeSequence f s.store.queue } }

/-- The record that a close sequence names leaves the queue (R120, R121). -/
def State.dequeue (s : State) (closeSequence : Nat) : State :=
  { s with store := { s.store with queue := dropNamed closeSequence s.store.queue } }

/-- An item joins the first class of the work list (R112). -/
def State.joinFirst (s : State) (item : WorkItem) : State :=
  { s with store := { s.store with firstClass := s.store.firstClass ++ [item] } }

/-- An item joins the second class of the work list (R112). -/
def State.joinSecond (s : State) (item : WorkItem) : State :=
  { s with store := { s.store with secondClass := s.store.secondClass ++ [item] } }

/-- The operation in flight is over, or replaced (R112). -/
def State.putFlight (s : State) (f : Option Flight) : State :=
  { s with store := { s.store with flight := f } }

/-! ### Claims (R116) -/

/-- The forty-eight record slots in ascending order. -/
def recordSlots : List RecordSlot := (Vector.ofFn (fun i : Fin 48 => i)).toList

/-- The slot with the lowest index in a given state. -/
def State.lowest (s : State) (x : SlotState) : Option RecordSlot :=
  recordSlots.find? fun i => decide (s.slotState i = x)

/-- R116: the slot whose erase is in flight. -/
def State.erasing (s : State) : Option RecordSlot :=
  match s.store.flight with
  | some { op := .erase i, .. } => some i
  | _ => none

/-- R116: the record still to be written that has claimed a slot. -/
def State.claimant (s : State) (i : RecordSlot) : Option QueueEntry :=
  s.store.queue.find? fun e => decide (e.state = .writing) && decide (e.slot = some i)

/-- R116: the ERASING slot, if one is in flight and no record has claimed it. -/
def State.erasingFree (s : State) : Option RecordSlot :=
  match s.erasing with
  | some i => if (s.claimant i).isNone then some i else none
  | none => none

/-- A slot claimed for a record: which, and whether its erase is merged into the write. -/
structure SlotClaim where
  slot       : RecordSlot
  eraseFirst : Bool
  deriving DecidableEq, Repr

/-- R116: the order of preference: the lowest FREE slot, the unclaimed ERASING slot, the lowest
MARKED slot. -/
def State.chooseSlot (s : State) : Option SlotClaim :=
  match s.lowest .free with
  | some i => some { slot := i, eraseFirst := false }
  | none =>
    match s.erasingFree with
    | some i => some { slot := i, eraseFirst := false }
    | none =>
      match s.lowest .marked with
      | some i => some { slot := i, eraseFirst := true }
      | none => none

/-- R116: the effect of a claim on the slot: a FREE or MARKED slot becomes WRITING, an ERASING one
stays; a MARKED slot's erase item leaves the work list. -/
def State.takeSlot (s : State) (c : SlotClaim) : State :=
  if s.slotState c.slot = .erasing then s
  else
    let t := s.putSlotState c.slot .writing
    { t with store := { t.store with
        secondClass := t.store.secondClass.filter fun x => decide (x ≠ .erase c.slot) } }

/-- R116, R118: a record's write ends without a verified copy: it is PRESENTABLE with NOT_DURABLE
set, and STORE_FAULT is raised on both ports. -/
def State.endNotDurable (s : State) (closeSequence : Nat) : State :=
  (s.updateQueued closeSequence fun e =>
    { e with state := .presentable, notDurable := true, slot := none, eraseFirst := false }).raiseStoreFault

/-- R116: a record of the queue claims a slot; absent when no slot can be claimed. -/
def State.claimFor (s : State) (closeSequence : Nat) : Option (State × SlotClaim) :=
  match s.chooseSlot with
  | some c =>
    some ((s.takeSlot c).updateQueued closeSequence fun e =>
      { e with slot := some c.slot, eraseFirst := c.eraseFirst }, c)
  | none => none

/-- R22, R116: a closed record joins the queue as WRITING and claims a slot, and its write joins the
first class; without a slot it ends NOT_DURABLE in the same event. -/
def State.enqueueRecord (s : State) (r : SettlementRecord) : State :=
  let joined : State :=
    { s with store := { s.store with
        queue := s.store.queue ++
          [{ session := r.session, closeSequence := r.closeSequence, body := .built r,
             state := .writing, notDurable := false, corrupt := false, slot := none,
             eraseFirst := false }] } }
  match joined.claimFor r.closeSequence with
  | some (t, _) => t.joinFirst (.recordWrite r.closeSequence)
  | none => joined.endNotDurable r.closeSequence

/-! ### The start of work (R112) -/

/-- R116, Table 7.2: how long a record write's attempt lasts. -/
def writeTime (eraseFirst : Bool) : Nat :=
  if eraseFirst then Config.eraseTime + Config.recordWriteTime else Config.recordWriteTime

/-- R112: an item of the work list starts. An erase turns its slot from MARKED to ERASING (R122). -/
def State.startItem (s : State) : WorkItem → State
  | .recordWrite n =>
    match s.queued n with
    | some e =>
      match e.slot with
      | some i =>
        s.putFlight (some { op := .recordWrite n i e.eraseFirst false,
                            left := writeTime e.eraseFirst })
      | none => s
    | none => s
  | .settledMark n =>
    match s.queued n with
    | some e =>
      match e.slot with
      | some i => s.putFlight (some { op := .settledMark n i, left := Config.markTime })
      | none => s
    | none => s
  | .reservation l => s.putFlight (some { op := .reservation l, left := Config.reservationTime })
  | .erase i =>
    (s.putSlotState i .erasing).putFlight (some { op := .erase i, left := Config.eraseTime })
  | .save c => s.putFlight (some { op := .save c, left := Config.saveTime })

/-- R112: an idle Store Controller starts the first item of the first class, or else of the second.
R177: during STARTING it starts none. -/
def State.startWork (s : State) : State :=
  if s.park.state = .starting || s.store.flight.isSome then s
  else match s.store.firstClass with
    | item :: rest =>
      ({ s with store := { s.store with firstClass := rest } } : State).startItem item
    | [] =>
      match s.store.secondClass with
      | item :: rest =>
        ({ s with store := { s.store with secondClass := rest } } : State).startItem item
      | [] => s

/-- R182: the work list is empty and no store operation is in flight. -/
def Store.drained (st : Store) : Bool :=
  st.firstClass.isEmpty && st.secondClass.isEmpty && st.flight.isNone

/-! ### The ends of a record write (R117, R118) -/

/-- R117: what a verified write leaves in the slot. -/
def writtenCells (e : QueueEntry) : SlotCells :=
  { header := .valid e.session e.closeSequence
    body := match e.body with
      | .built r => .record r
      | .asRead image => .damaged image
    markBlank := true
    singles := 0 }

/-- R117: the write passed: the slot is HELD and the record PRESENTABLE and durable. -/
def State.writePassed (s : State) (n : Nat) (i : RecordSlot) : State :=
  let written := match s.queued n with
    | some e => s.putSlotCells i (writtenCells e)
    | none => s
  ((written.putSlotState i .held).updateQueued n fun e =>
    { e with state := .presentable, eraseFirst := false }).putFlight none

/-- R118: the attempt failed and its slot is BAD: a first failure claims a new slot and retries at
once; a second one, or a retry that cannot claim, ends NOT_DURABLE. -/
def State.writeFailed (s : State) (n : Nat) (i : RecordSlot) (retry : Bool) (left : SlotCells) :
    State :=
  let bad := (s.putSlotCells i left).putSlotState i .bad
  if retry then (bad.endNotDurable n).putFlight none
  else match bad.claimFor n with
    | some (t, c) =>
      t.putFlight (some { op := .recordWrite n c.slot c.eraseFirst true,
                          left := writeTime c.eraseFirst })
    | none => (bad.endNotDurable n).putFlight none

/-- R118: the mark step of a failed write: the mark area is written, if the mark takes. -/
def SlotCells.withMark (x : SlotCells) (takes : Bool) : SlotCells :=
  if takes then { x with markBlank := false } else x

/-! ### Erases (R122) -/

/-- R122: an erase from the work list passed: the slot is blank, and FREE or WRITING. -/
def State.erasePassed (s : State) (i : RecordSlot) : State :=
  ((s.putSlotCells i SlotCells.blank).putSlotState i
    (if (s.claimant i).isSome then .writing else .free)).putFlight none

/-- R116: the record that had claimed a slot whose erase failed claims again; its write item keeps its
place, or leaves the work list when the record ends NOT_DURABLE. -/
def State.claimAgain (s : State) (n : Nat) : State :=
  match s.claimFor n with
  | some (t, _) => t
  | none =>
    let t := s.endNotDurable n
    { t with store := { t.store with
        firstClass := t.store.firstClass.filter fun x => decide (x ≠ .recordWrite n) } }

/-- R122: an erase from the work list failed: the slot is BAD and STORE_FAULT is raised. -/
def State.eraseFailed (s : State) (i : RecordSlot) (left : SlotCells) : State :=
  let bad := (((s.putSlotCells i left).putSlotState i .bad).putFlight none).raiseStoreFault
  match s.claimant i with
  | some e => bad.claimAgain e.closeSequence
  | none => bad

/-! ### Reservations (R127) -/

/-- R127: the limit that a reservation write writes. -/
def nextReservation (limit : Nat) : Nat :=
  min (limit + Config.reservationStep) Config.lastReservation

/-- A reservation write waits in the first class. -/
def WorkItem.isReservation : WorkItem → Bool
  | .reservation _ => true
  | _ => false

/-- R127: a reservation write is waiting or in flight. -/
def Store.reserving (st : Store) : Bool :=
  st.firstClass.any WorkItem.isReservation ||
    match st.flight with
    | some { op := .reservation _, .. } => true
    | _ => false

/-- R127: fewer than 16 numbers remain below the limit. -/
def Account.numbersLow (a : Account) : Bool :=
  decide (a.reservationLimit - a.nextNumber < Config.reservationLow)

/-- R127: the test made at each opening, and at each opening refused for want of a number. -/
def State.testReservation (s : State) : State :=
  if s.account.numbersLow && !s.store.reserving then
    s.joinFirst (.reservation (nextReservation s.account.reservationLimit))
  else s

/-! ### Settings (R128) -/

/-- R128: the copy that SAVE SETTINGS takes. -/
def State.settings (s : State) : Settings :=
  { pedestals := mapCells (fun _ e => e.cfg) s.allot.entries
    bindings := s.account.bindings
    feeders := mapCells (fun _ f => f.cfg) s.allot.feeders
    siteCeiling := s.allot.siteCeiling
    parameters := s.allot.parameters
    rows := s.account.rows
    payLevels := mapCells (fun _ x => x.level) s.pay.notices
    siteLevels := mapCells (fun _ x => x.level) s.site.notices
    startQuiesced := s.park.startQuiesced }

/-- R129: the settings in their blocks. The working fields stay as they are. -/
def State.loadSettings (s : State) (c : Settings) : State :=
  { s with
    allot := { entries := mapCells (fun p e => { e with cfg := cell c.pedestals p }) s.allot.entries
               feeders := mapCells (fun f e => { e with cfg := cell c.feeders f }) s.allot.feeders
               siteCeiling := c.siteCeiling
               parameters := c.parameters }
    account := { s.account with rows := c.rows, bindings := c.bindings }
    pay := { s.pay with notices := withLevels s.pay.notices c.payLevels }
    site := { s.site with notices := withLevels s.site.notices c.siteLevels }
    park := { s.park with startQuiesced := c.startQuiesced } }

/-- R111: corrected errors are counted up to the limit. -/
def State.countCorrected (s : State) (n : Nat) : State :=
  { s with store := { s.store with corrected := min (s.store.corrected + n) Config.correctedLimit } }

/-! ### What a cut operation leaves (R117, R121, R122, R127, R128) -/

/-- R122: an erase cut part-way: header first, body next, mark area last. -/
def cutErase (x : SlotCells) : CutPoint → SlotCells
  | .untouched => x
  | .headerPart | .garbled => { x with header := .invalid }
  | .headerBlank => { x with header := .blank }
  | .marked => { x with header := .blank, body := .blank, markBlank := false }
  | .allBlank | .complete => SlotCells.blank

/-- R117, R118: a record write cut part-way: body first, header last, then the verify; the mark step
of a failed write; a merged erase. -/
def cutWrite (x written : SlotCells) : CutPoint → SlotCells
  | .untouched => x
  | .headerPart | .garbled => { written with header := .invalid }
  | .headerBlank => { written with header := .blank }
  | .marked => { x with markBlank := false }
  | .allBlank => SlotCells.blank
  | .complete => written

/-- R121: a mark cut before or after any of it was written. -/
def cutMark (x : SlotCells) : CutPoint → SlotCells
  | .untouched => x
  | _ => { x with markBlank := false }

/-- R127, R128: the counter cell or the settings area, whose write was cut. -/
def cutArea {α : Type} (x : Area α) (value : α) : CutPoint → Area α
  | .untouched => x
  | .complete => { contents := .good value, singles := 0 }
  | _ => { contents := .bad, singles := 0 }

/-- R113: what the array holds after a hardware reset has cut the operation in flight. -/
def State.cutArray (s : State) (cut : CutPoint) : NvArray :=
  match s.store.flight with
  | none => s.store.array
  | some f =>
    match f.op with
    | .recordWrite n i _ _ =>
      match s.queued n with
      | some e => { s.store.array with
          slots := putCell s.store.array.slots i (cutWrite (s.slotCells i) (writtenCells e) cut) }
      | none => s.store.array
    | .settledMark _ i => { s.store.array with
        slots := putCell s.store.array.slots i (cutMark (s.slotCells i) cut) }
    | .erase i => { s.store.array with
        slots := putCell s.store.array.slots i (cutErase (s.slotCells i) cut) }
    | .reservation l => { s.store.array with counter := cutArea s.store.array.counter l cut }
    | .save c => { s.store.array with settings := cutArea s.store.array.settings c cut }

end Sys2Proof.Machine
end

