-- ==== Sys2Proof/Machine/Pricing.lean ====
section
/-! DEFINITION. Money: raw accruals and the committed amount (R100 to R102), the stop threshold (R103),
the overstay increment (R106), the close total (R108), the display rate (R109), and how a BIND
TARIFF treats a session's segments (R95 to R98). -/

namespace Sys2Proof.Machine
open Sys2Proof

/-- R94: the segment list, in the order in which the segments were opened. -/
def Session.segments (x : Session) : List Segment := x.earlier ++ [x.current]

/-- R102: the first segment, whose flat fee the session owes. -/
def Session.firstSegment (x : Session) : Segment :=
  match x.earlier with
  | g :: _ => g
  | [] => x.current

/-- R101: the sum of the raw accruals of all the session's segments. -/
def Session.rawSum (x : Session) : Nat := (x.segments.map (·.raw)).sum

/-- R101: the committed amount. -/
def Session.committed (x : Session) : Nat := x.rawSum / 1000000 + x.flatFee + x.overstayFee

/-- R108: the close total, the energy part rounded half up once over the sum. -/
def Session.closeTotal (x : Session) : Nat :=
  (x.rawSum + 500000) / 1000000 + x.flatFee + x.overstayFee

/-- R103: the stop threshold. -/
def Session.stopThreshold (x : Session) (holdReserve : Nat) : Nat := x.hold.getD 0 - holdReserve

/-- R103: the committed amount is at or above the threshold. -/
def Session.atThreshold (x : Session) (holdReserve : Nat) : Bool :=
  decide (x.stopThreshold holdReserve ≤ x.committed)

/-- R106: the largest overstay cap among the session's segments. -/
def Session.largestCap (x : Session) : Nat :=
  (x.segments.map (·.snapshot.cap)).foldl max 0

/-- R106: the increment of an overstay minute beyond grace. -/
def Session.overstayIncrement (x : Session) : Nat :=
  min x.current.snapshot.perMinute
    (min (x.largestCap - x.overstayFee) (x.hold.getD 0 - x.committed))

/-- R105, R106: the end of the next overstay minute. -/
def Session.endMinute (x : Session) : Session :=
  let y := { x with minutesEnded := x.minutesEnded + 1 }
  if x.current.snapshot.grace < x.minutesEnded + 1 then
    { y with overstayMinutes := x.overstayMinutes + 1,
             overstayFee := x.overstayFee + x.overstayIncrement }
  else y

/-- R94: a fresh segment with a row's snapshot. -/
def freshSegment (row : RowIndex) (t : Tariff) (now : ClockStamp) : Segment :=
  { row := row.val, snapshot := t, start := now, billed := 0, raw := 0 }

/-- R96, R97: a bind reaches an authorised session: nothing when the five values are equal, a new
current segment when they differ and the list has room, else SEGMENTS_FULL. -/
def Session.rebind (x : Session) (row : RowIndex) (t : Tariff) (now : ClockStamp) : Session :=
  if t = x.current.snapshot then x
  else if x.segments.length < Config.segmentLimit then
    { x with earlier := x.segments, current := freshSegment row t now }
  else { x with segmentsFull := true }

/-- R95: how a bind treats a session by its state; R98: an AUTHORISING session's single segment is
replaced. -/
def Session.bind (x : Session) (row : RowIndex) (t : Tariff) (now : ClockStamp) : Session :=
  match x.state with
  | .authorising => { x with earlier := [], current := freshSegment row t now }
  | _ => x.rebind row t now

/-- R91: the tariff row a pedestal is bound to. -/
def State.boundRow (s : State) (p : Pedestal) : TariffRow :=
  cell s.account.rows (cell s.account.bindings p)

/-- R109: the display rate of a directive. -/
def State.displayRate (s : State) (p : Pedestal) : Nat :=
  match s.session p with
  | some x => x.current.snapshot.rate
  | none => if (s.boundRow p).valid then (s.boundRow p).tariff.rate else 0

/-- R101, R134: the committed amount of a directive. -/
def State.committedOf (s : State) (p : Pedestal) : Nat :=
  match s.session p with
  | some x => x.committed
  | none => 0

/-- R95: a taken bind treats one pedestal: its binding, then its session. -/
def State.bindPedestal (row : RowIndex) (s : State) (p : Pedestal) : State :=
  let bound : State :=
    { s with account := { s.account with bindings := putCell s.account.bindings p row } }
  match s.session p with
  | some x => bound.putSession p (x.bind row (cell s.account.rows row).tariff s.clockNow)
  | none => bound

/-- R95: a taken bind, over the pedestals of the mask in ascending order. -/
def State.bindMask (s : State) (mask : BitVec 16) (row : RowIndex) : State :=
  (pedestals.filter fun p => mask.getLsbD p.val).foldl (State.bindPedestal row) s

end Sys2Proof.Machine
end

