-- ==== Sys2Proof/Machine/Sessions.lean ====
section
/-! DEFINITION. The session's life at its slot: opening (R6, R7), voiding (R14), closing (R22), the
transitions to STOPPING and PARKED (R17, R19), revival (R19), the work of an accepted report (R3,
R15 to R19), metering (R79 to R86), draw tracking (R58 to R61), and the power-fail close (R24). -/

namespace Sys2Proof.Machine
open Sys2Proof

/-! ### The count of open sessions (R23, R180) -/

/-- R176, R174: the park state changes, which raises PARK_STATE. -/
def State.enterPark (s : State) (x : ParkState) : State :=
  ({ s with park := { s.park with state := x } } : State).raiseSite .parkState

/-- R23, R180: the Account Unit reports the number of open sessions; in DRAINING a count of 0 moves
the park to QUIESCED. -/
def State.reportCount (s : State) : State :=
  let t : State := { s with park := { s.park with openCount := s.occupied } }
  if t.park.state = .draining && t.park.openCount = 0 then t.enterPark .quiesced else t

/-! ### Void and close -/

/-- R61: the pedestal's session leaves DELIVERING, so its tracking ends. -/
def State.endTracking (s : State) (p : Pedestal) : State := s.putEntry p (s.entry p).endTracking

/-- R14: voids the session of a slot. The refused flag becomes `refused`, by the cause (R8). -/
def State.void (s : State) (p : Pedestal) (refused : Bool) : State :=
  match s.session p with
  | none => s
  | some x =>
    let t := s.putSlot p { s.slot p with session := none, refused := refused, lastEnded := x.number }
    ({ t with account := { t.account with
        authQueue := t.account.authQueue.filter fun q => decide (q ≠ p) } } : State).reportCount

/-- R22, Table 1.3: the settlement record built at a close. -/
def Session.record (x : Session) (p : Pedestal) (closeSequence : Nat) (reason : CloseReason)
    (now : ClockStamp) : SettlementRecord :=
  { session := x.number, closeSequence := closeSequence, pedestal := p,
    customerRef := x.customerRef.getD 0, hold := x.hold.getD 0, opened := x.opened,
    authorised := x.authorised.getD { seconds := 0, clockSet := false }, closed := now,
    meterStart := x.meterStart.getD 0, meterEnd := x.lastReading, billed := x.billed,
    unbilled := x.unbilled, overstayMinutes := x.overstayMinutes, overstayFee := x.overstayFee,
    flatFee := x.flatFee, total := x.closeTotal, closeReason := reason,
    meterDispute := x.meterDispute, segmentsFull := x.segmentsFull, stopIgnored := x.stopIgnored,
    segments := x.segments }

/-- R22: closes the session of a slot: the record takes the close-sequence counter's value and joins
the settlement queue, and the slot becomes FREE with the refused flag as its cause says (R8). -/
def State.close (s : State) (p : Pedestal) (reason : CloseReason) (refused : Bool) : State :=
  match s.session p with
  | none => s
  | some x =>
    let r := x.record p s.account.nextClose reason s.clockNow
    let counted : State :=
      { s with account := { s.account with nextClose := s.account.nextClose + 1 } }
    let queued := counted.enqueueRecord r
    let freed := queued.putSlot p
      { queued.slot p with session := none, refused := refused, lastEnded := x.number }
    (freed.endTracking p).reportCount

/-- R24: how the power-fail close treats one slot. -/
def State.powerFailSlot (s : State) (p : Pedestal) : State :=
  match s.session p with
  | none => s
  | some x =>
    match x.state with
    | .authorising => s.void p (s.slot p).refused
    | _ => s.close p .powerFail true

/-! ### STOPPING and PARKED -/

/-- R17: the session record on entry to STOPPING. -/
def Session.toStopping (x : Session) (reason : StopReason) : Session :=
  { x with
    state := .stopping
    stopReason := some (x.stopReason.getD reason)
    stopWindow := some Config.stopWindow }

/-- R17: the session of a slot enters STOPPING; reason HOLD raises HOLD_STOP. -/
def State.enterStopping (s : State) (p : Pedestal) (reason : StopReason) : State :=
  match s.session p with
  | none => s
  | some x =>
    let t := (s.putSession p (x.toStopping reason)).endTracking p
    if reason = .hold then t.raisePay .holdStop else t

/-- R18, R19: the session record on entry to PARKED; the stop window stops. -/
def Session.toParked (x : Session) (by_ : ParkedBy) : Session :=
  { x with state := .parked, parkedBy := some by_, stopWindow := none }

/-- R19: the session of a slot enters PARKED. -/
def State.enterParked (s : State) (p : Pedestal) (by_ : ParkedBy) : State :=
  match s.session p with
  | none => s
  | some x => (s.putSession p (x.toParked by_)).endTracking p

/-- R19: a late stop cause in PARKED by COMPLETE. -/
def Session.lateStop (x : Session) (reason : StopReason) : Session :=
  { x with stopReason := some (x.stopReason.getD reason), parkedBy := some .stop }

/-- R19: revival: to STOPPING at the threshold, else back to DELIVERING or READY. -/
def State.revive (s : State) (p : Pedestal) (x : Session) : State :=
  if x.atThreshold s.allot.parameters.holdReserve then s.enterStopping p .hold
  else s.putSession p { x with state := if 0 < x.billed then .delivering else .ready }

/-! ### Opening (R5 to R9) -/

/-- R5: a session number is available. -/
def Account.numberAvailable (a : Account) : Bool := decide (a.nextNumber < a.reservationLimit)

/-- R6: every opening condition but the FREE slot and the refused flag. -/
def State.canOpen (s : State) (p : Pedestal) : Bool :=
  decide (s.park.state = .open)
    && decide (s.store.queue.length < Config.backlogCount)
    && s.account.numberAvailable
    && (s.entry p).cfg.present
    && (s.boundRow p).valid
    && decide (s.account.nextClose + s.occupied ≤ Config.lastCloseSequence)

/-- Table 1.1: the session record at opening. -/
def State.newSession (s : State) (p : Pedestal) (reading : Nat) (stamp : Word32) : Session :=
  { number := s.account.nextNumber, state := .authorising, stopReason := none, customerRef := none,
    hold := none, opened := s.clockNow, authorised := none, meterStart := none,
    lastReading := reading, lastStamp := stamp, billed := 0, unbilled := 0, earlier := [],
    current := freshSegment (cell s.account.bindings p) (s.boundRow p).tariff s.clockNow,
    overstayTime := 0, minutesEnded := 0, overstayMinutes := 0, overstayFee := 0, flatFee := 0,
    parkedBy := none, meterDispute := false, segmentsFull := false, stopIgnored := false,
    authorisationWindow := some Config.authorisationWindow, stopWindow := none,
    linkLossTimer := none }

/-- R6: a PLUGGED report opens a session; R127 tests the reservation after the number is taken. -/
def State.openSession (s : State) (p : Pedestal) (reading : Nat) (stamp : Word32) : State :=
  let t := s.putSlot p { s.slot p with session := some (s.newSession p reading stamp),
                                       unavailable := false }
  let counted : State := { t with account := { t.account with
    nextNumber := t.account.nextNumber + 1, authQueue := t.account.authQueue ++ [p] } }
  counted.reportCount.testReservation

/-- R7: an opening refused; R127 tests the reservation when it was for want of a number. -/
def State.refuseOpening (s : State) (p : Pedestal) : State :=
  let t := s.putSlot p { s.slot p with unavailable := true }
  if s.account.numberAvailable then t else t.testReservation

/-! ### Metering: step 1 of R3 (chapter 5) -/

/-- R82: the delta of a reading. -/
def meterDelta (reading last : Nat) : Nat :=
  (reading + Config.meterModulus - last % Config.meterModulus) % Config.meterModulus

/-- R83: the stamp difference, modulo 2^32. -/
def stampDifference (stamp last : Word32) : Nat := (stamp - last).toNat

/-- R84: the plausibility bound. -/
def plausibilityBound (peak dt : Nat) : Nat :=
  peak * 100 * dt * 5 / 14400000 + Config.boundAllowance

/-- R100: a billed delta reaches a segment. -/
def billSegment (g : Segment) (energy : Nat) : Segment :=
  { g with billed := g.billed + energy, raw := g.raw + energy * g.snapshot.rate }

/-- R85, R86 steps 1 to 3, R102: a reading billed to a session. -/
def Session.billReading (x : Session) (peak reading : Nat) (stamp : Word32) : Session :=
  let delta := meterDelta reading x.lastReading
  let bound := plausibilityBound peak (stampDifference stamp x.lastStamp)
  let energy := min delta bound
  let first := decide (x.billed = 0) && decide (0 < energy)
  { x with
    lastReading := reading
    lastStamp := stamp
    billed := x.billed + energy
    unbilled := (x.unbilled + (delta - energy)) % Config.unbilledModulus
    meterDispute := x.meterDispute || decide (0 < delta - energy)
    current := billSegment x.current energy
    flatFee := if first then x.firstSegment.snapshot.flatFee else x.flatFee
    state := if first && decide (x.state = .ready) then .delivering else x.state }

/-- R85: the reading has unbilled energy. -/
def Session.disputed (x : Session) (peak reading : Nat) (stamp : Word32) : Bool :=
  decide (plausibilityBound peak (stampDifference stamp x.lastStamp)
    < meterDelta reading x.lastReading)

/-- R81 to R86: a reading reaches an authorised session; step 4 of R86 tests the threshold. -/
def State.billSession (s : State) (p : Pedestal) (x : Session) (reading : Nat) (stamp : Word32) :
    State :=
  let y := x.billReading (s.entry p).peak reading stamp
  let billed := s.putSession p y
  let raised :=
    if x.disputed (s.entry p).peak reading stamp then billed.raiseSite .meterDispute else billed
  if SessionState.counts y.state && y.atThreshold s.allot.parameters.holdReserve then
    raised.enterStopping p .hold
  else raised

/-- R79, R56: step 1 of R3: the reading by the slot's state, then the reset of the peak grant. -/
def State.takeReading (s : State) (p : Pedestal) (reading : Nat) (stamp : Word32) : State :=
  let t := match s.session p with
    | none => s
    | some x =>
      match x.state with
      | .authorising => s.putSession p { x with lastReading := reading, lastStamp := stamp }
      | _ => s.billSession p x reading stamp
  t.putEntry p (t.entry p).resetPeak

/-! ### The report's state and flags: step 2 of R3 -/

/-- R15, R16, R19: the stop cause that a report carries, the first that fits. -/
def Report.stopCause (r : Report) : Option StopReason :=
  if r.emergency then some .emergency
  else if r.state = .fault then some .pedestalFault
  else if r.stopPressed then some .customerStop
  else none

/-- R6, R7, R8: a report at a FREE slot. -/
def State.reportFree (s : State) (p : Pedestal) (r : Report) (stamp : Word32) : State :=
  match r.state with
  | .idle => s.putSlot p { s.slot p with refused := false, unavailable := false }
  | .plugged =>
    if (s.slot p).refused then s
    else if s.canOpen p then s.openSession p r.reading stamp
    else s.refuseOpening p
  | _ => s

/-- R15, R16: a report at a session in READY or DELIVERING. -/
def State.reportCharging (s : State) (p : Pedestal) (r : Report) : State :=
  match r.state with
  | .idle => s.close p .unplugged false
  | _ =>
    match r.stopCause with
    | some reason => s.enterStopping p reason
    | none => if r.state = .complete then s.enterParked p .complete else s

/-- R18: a report at a session in STOPPING. -/
def State.reportStopping (s : State) (p : Pedestal) (x : Session) (r : Report) : State :=
  match r.state with
  | .idle => s.close p (StopReason.close (x.stopReason.getD .hold)) false
  | .charging => s
  | _ => if r.draw = 0 then s.enterParked p .stop else s

/-- R23: the close reason of an IDLE report in PARKED. -/
def Session.parkedCloseReason (x : Session) : CloseReason :=
  match x.stopReason with
  | some reason => StopReason.close reason
  | none => .unplugged

/-- R19: a report at a session in PARKED. -/
def State.reportParked (s : State) (p : Pedestal) (x : Session) (r : Report) : State :=
  match r.state with
  | .idle => s.close p x.parkedCloseReason false
  | _ =>
    if x.parkedBy = some .complete then
      match r.stopCause with
      | some reason => s.putSession p (x.lateStop reason)
      | none => if r.state = .charging then s.revive p x else s
    else s

/-- R3, step 2: the report's state and flags under the rule of the slot's state. -/
def State.applyReport (s : State) (p : Pedestal) (r : Report) (stamp : Word32) : State :=
  match s.session p with
  | none => s.reportFree p r stamp
  | some x =>
    match x.state with
    | .authorising => if r.state = .idle then s.void p false else s
    | .ready | .delivering => s.reportCharging p r
    | .stopping => s.reportStopping p x r
    | .parked => s.reportParked p x r

/-! ### Draw tracking: step 3 of R3 -/

/-- R59: the entry condition. -/
def AllotEntry.meetsEntry (q : Parameters) (delivering : Bool) (draw : Nat) (e : AllotEntry) : Bool :=
  q.trackingOn && delivering && decide (0 < e.grant) && decide (draw + q.slack < e.grant)

/-- R59 to R61: an accepted report's draw offered to draw tracking. -/
def AllotEntry.offerDraw (q : Parameters) (delivering : Bool) (draw : Nat) (e : AllotEntry) :
    AllotEntry :=
  match e.tracking with
  | none =>
    if e.meetsEntry q delivering draw then
      if e.runCount + 1 < 3 then { e with runCount := e.runCount + 1 }
      else { e with tracking := some (max (draw + q.slack) q.minGrant), runCount := 0 }
    else { e with runCount := 0 }
  | some c =>
    if e.grant ≤ draw + q.slack / 2 then { e with tracking := none, runCount := 0 }
    else if draw + q.slack < c then { e with tracking := some (max (draw + q.slack) q.minGrant) }
    else e

/-- R60: the draw, which does not end tracking, lowers the tracking cap to max(D + slack, m), and so
causes a recompute, also where that value is the cap that already stood. -/
def AllotEntry.lowers (q : Parameters) (draw : Nat) (e : AllotEntry) : Bool :=
  match e.tracking with
  | some c => decide (draw + q.slack / 2 < e.grant) && decide (draw + q.slack < c)
  | none => false

/-- R58: the pedestal's session is in DELIVERING. -/
def State.delivering (s : State) (p : Pedestal) : Bool :=
  match s.session p with
  | some x => decide (x.state = .delivering)
  | none => false

/-- R58: step 3 of R3. -/
def State.trackDraw (s : State) (p : Pedestal) (draw : Nat) : State :=
  s.putEntry p (AllotEntry.offerDraw s.allot.parameters (s.delivering p) draw (s.entry p))

/-- R3: steps 1 and 2 of an accepted report: the reading, then the state and flags. -/
def State.readAndApply (s : State) (p : Pedestal) (r : Report) (stamp : Word32) : State :=
  (s.takeReading p r.reading stamp).applyReport p r stamp

/-- R3: the three steps of an accepted report, in order. -/
def State.treatReport (s : State) (p : Pedestal) (r : Report) (stamp : Word32) : State :=
  (s.readAndApply p r stamp).trackDraw p r.draw

/-- R60: step 3 of the report lowers the tracking cap. -/
def State.reportLowers (s : State) (p : Pedestal) (r : Report) (stamp : Word32) : Bool :=
  let t := s.readAndApply p r stamp
  AllotEntry.lowers t.allot.parameters r.draw (t.entry p)

/-! ### Supply failure (R24, R181) -/

/-- R181: the entry to POWER_FAIL, in the event of the SUPPLY completion. R178: it ends a start-up
sequence in progress; a restore or scan that it abandons adds nothing to the corrected-error count
(notes/assumptions/30.md). -/
def State.enterPowerFail (s : State) : State :=
  let failing : State := s.enterPark .powerFail
  let halted : State := { failing with park := { failing.park with startStep := none } }
  (pedestals.foldl State.powerFailSlot halted).recompute

end Sys2Proof.Machine
end

