-- ==== Sys2Proof/Machine/Frames.lean ====
section
/-! DEFINITION. The frames that cross a pin (chapter 12): the poll frame with its directive (R133 to
R135, R186), the answer frame (R187), the request frames of both ports (R189), the reply frame
(R189), and the reply bodies (R190, R191). -/

namespace Sys2Proof.Machine
open Sys2Proof

/-! ### The directive and the poll frame -/

/-- The commands of a directive (R134). -/
inductive Command where
  | standby | await | declined | unavailable | wait | run | stop
  deriving DecidableEq, Repr

def Command.code : Command → Nat
  | .standby => 0 | .await => 1 | .declined => 2 | .unavailable => 3 | .wait => 4 | .run => 5
  | .stop => 6

/-- Table 1.5: the command that a slot calls for. -/
def SessionSlot.command (x : SessionSlot) (admitted : Bool) : Command :=
  match x.session with
  | none => if x.refused then .declined else if x.unavailable then .unavailable else .standby
  | some y =>
    match y.state with
    | .authorising => .await
    | .ready | .delivering => if admitted then .run else .wait
    | .stopping => .stop
    | .parked => if y.parkedBy = some .complete then .run else .stop

/-- R135: the command of a directive; POWER_FAIL is placed first. -/
def State.command (s : State) (p : Pedestal) : Command :=
  if s.park.state = .powerFail then .stop else (s.slot p).command (s.entry p).admitted

/-- Table 12.3: the poll frame with the directive of R134 as it stands now. -/
def State.pollFrame (s : State) (p : Pedestal) : List Byte :=
  closeFrame 0x55
    (bytesOf 1 p.val ++ bytesOf 1 (s.command p).code ++ bytesOf 2 (s.entry p).grant
      ++ bytesOf 4 (s.sessionNumber p) ++ bytesOf 3 (s.displayRate p)
      ++ bytesOf 5 (s.committedOf p))

/-! ### The answer frame -/

/-- R187: the characters from the first AAH on. -/
def fromStart : List LoopChar → List LoopChar
  | [] => []
  | c :: rest => if c.byte = 0xAA then c :: rest else fromStart rest

/-- R187: the complete answer frame among the characters received, absent while it is not complete or
when a framing error has broken it. -/
def answerFrame (rx : List LoopChar) : Option (List Byte) :=
  let chars := (fromStart rx).take 14
  if chars.length = 14 && !chars.any (·.framingError) then some (chars.map (·.byte)) else none

/-- R136, R138: the report of an answer frame for the pedestal polled, with its request clamped to the
cap; absent when a test fails. -/
def reportOf (frame : List Byte) (p : Pedestal) (cap : Nat) : Option Report :=
  if checkHolds (frame.drop 1) && decide ((frame.getD 1 0).toNat = p.val) then
    match reportStateOf (frame.getD 2 0) with
    | some st =>
      some
        { state := st
          stopPressed := (frame.getD 3 0).getLsbD 0
          emergency := (frame.getD 3 0).getLsbD 1
          request := min (numberOf ((frame.drop 4).take 2)) cap
          draw := numberOf ((frame.drop 6).take 2)
          reading := numberOf ((frame.drop 8).take 4) % Config.meterModulus }
    | none => none
  else none

/-! ### Requests -/

/-- The ten payment requests with their arguments (Table 12.5). -/
inductive PayRequest where
  | status
  | nextAuthorisation
  | authorise (pedestal : Byte) (session hold customerRef : Word32)
  | decline (pedestal : Byte) (session : Word32)
  | cancel (pedestal : Byte) (session : Word32)
  | viewSession (pedestal : Byte)
  | fetch
  | settle (session : Word32)
  | acknowledge (mask : Byte)
  | setLevel (cause level : Byte)
  deriving DecidableEq, Repr

/-- The fifteen site requests with their arguments (Table 12.5). -/
inductive SiteRequest where
  | status
  | setSiteCeiling (ceiling : BitVec 16)
  | setFeeder (feeder : Byte) (ceiling : BitVec 16) (sensor : Byte) (tlow thigh floor : BitVec 16)
  | setPedestal (pedestal present feeder cls : Byte) (cap : BitVec 16) (rampMode : Byte)
  | setParameters (minGrant step : BitVec 16) (stepInterval : Byte) (slack holdReserve : BitVec 16)
      (tracking startQuiesced : Byte)
  | writeTariffRow (row valid : Byte) (rate : BitVec 24) (flatFee : BitVec 16) (grace : Byte)
      (perMinute cap : BitVec 16)
  | bindTariff (mask : BitVec 16) (row : Byte)
  | setClock (seconds : Word32)
  | quiesce
  | resume
  | readAllotment (pedestal : Byte)
  | readFeeder (feeder : Byte)
  | saveSettings
  | acknowledge (mask : Byte)
  | setLevel (cause level : Byte)
  deriving DecidableEq, Repr

/-- The kind byte of a payment request (Table 12.5). -/
def PayRequest.kind : PayRequest → Byte
  | .status => 0x01 | .nextAuthorisation => 0x02 | .authorise .. => 0x03 | .decline .. => 0x04
  | .cancel .. => 0x05 | .viewSession .. => 0x06 | .fetch => 0x07 | .settle .. => 0x08
  | .acknowledge .. => 0x09 | .setLevel .. => 0x0A

/-- The kind byte of a site request (Table 12.5). -/
def SiteRequest.kind : SiteRequest → Byte
  | .status => 0x21 | .setSiteCeiling .. => 0x22 | .setFeeder .. => 0x23 | .setPedestal .. => 0x24
  | .setParameters .. => 0x25 | .writeTariffRow .. => 0x26 | .bindTariff .. => 0x27
  | .setClock .. => 0x28 | .quiesce => 0x29 | .resume => 0x2A | .readAllotment .. => 0x2B
  | .readFeeder .. => 0x2C | .saveSettings => 0x2D | .acknowledge .. => 0x2E | .setLevel .. => 0x2F

/-- The bytes of a word argument. -/
def wordBytes {w : Nat} (width : Nat) (v : BitVec w) : List Byte := bytesOf width v.toNat

/-- The argument bytes of a payment request (Table 12.5). -/
def PayRequest.arguments : PayRequest → List Byte
  | .status | .nextAuthorisation | .fetch => []
  | .authorise p n h r => [p] ++ wordBytes 4 n ++ wordBytes 4 h ++ wordBytes 4 r
  | .decline p n | .cancel p n => [p] ++ wordBytes 4 n
  | .viewSession p => [p]
  | .settle n => wordBytes 4 n
  | .acknowledge m => [m]
  | .setLevel c l => [c, l]

/-- The argument bytes of a site request (Table 12.5). -/
def SiteRequest.arguments : SiteRequest → List Byte
  | .status | .quiesce | .resume | .saveSettings => []
  | .setSiteCeiling c => wordBytes 2 c
  | .setFeeder f c e tl th fl =>
    [f] ++ wordBytes 2 c ++ [e] ++ wordBytes 2 tl ++ wordBytes 2 th ++ wordBytes 2 fl
  | .setPedestal p a f c cap m => [p, a, f, c] ++ wordBytes 2 cap ++ [m]
  | .setParameters m st i sl h t q =>
    wordBytes 2 m ++ wordBytes 2 st ++ [i] ++ wordBytes 2 sl ++ wordBytes 2 h ++ [t, q]
  | .writeTariffRow r v e ff g pm cap =>
    [r, v] ++ wordBytes 3 e ++ wordBytes 2 ff ++ [g] ++ wordBytes 2 pm ++ wordBytes 2 cap
  | .bindTariff m r => wordBytes 2 m ++ [r]
  | .setClock t => wordBytes 4 t
  | .readAllotment p => [p]
  | .readFeeder f => [f]
  | .acknowledge m => [m]
  | .setLevel c l => [c, l]

/-- R189: the request frame of a payment request. -/
def PayRequest.frame (r : PayRequest) : List Byte := closeFrame 0x3C (r.kind :: r.arguments)

/-- R189: the request frame of a site request. -/
def SiteRequest.frame (r : SiteRequest) : List Byte := closeFrame 0x3C (r.kind :: r.arguments)

/-- The word that argument bytes spell. -/
def wordOf (w : Nat) (bytes : List Byte) : BitVec w := BitVec.ofNat w (numberOf bytes)

/-- The argument word of `n` bytes at a place of the argument bytes. -/
def arg (w at_ n : Nat) (args : List Byte) : BitVec w := wordOf w ((args.drop at_).take n)

/-- How many argument bytes a payment kind has; absent for a kind that is not in the port's column of
Table 12.5. -/
def payLength (kind : Nat) : Option Nat :=
  match kind with
  | 0x01 => some 0 | 0x02 => some 0 | 0x03 => some 13 | 0x04 => some 5 | 0x05 => some 5
  | 0x06 => some 1 | 0x07 => some 0 | 0x08 => some 4 | 0x09 => some 1 | 0x0A => some 2 | _ => none

/-- How many argument bytes a site kind has; absent for a kind not in the port's column. -/
def siteLength (kind : Nat) : Option Nat :=
  match kind with
  | 0x21 => some 0 | 0x22 => some 2 | 0x23 => some 10 | 0x24 => some 7 | 0x25 => some 11
  | 0x26 => some 12 | 0x27 => some 3 | 0x28 => some 4 | 0x29 => some 0 | 0x2A => some 0
  | 0x2B => some 1 | 0x2C => some 1 | 0x2D => some 0 | 0x2E => some 1 | 0x2F => some 2 | _ => none

/-- The payment request of a known kind with its argument bytes. -/
def payRequestOf (kind : Nat) (a : List Byte) : PayRequest :=
  match kind with
  | 0x02 => .nextAuthorisation
  | 0x03 => .authorise (arg 8 0 1 a) (arg 32 1 4 a) (arg 32 5 4 a) (arg 32 9 4 a)
  | 0x04 => .decline (arg 8 0 1 a) (arg 32 1 4 a)
  | 0x05 => .cancel (arg 8 0 1 a) (arg 32 1 4 a)
  | 0x06 => .viewSession (arg 8 0 1 a)
  | 0x07 => .fetch
  | 0x08 => .settle (arg 32 0 4 a)
  | 0x09 => .acknowledge (arg 8 0 1 a)
  | 0x0A => .setLevel (arg 8 0 1 a) (arg 8 1 1 a)
  | _ => .status

/-- The site request of a known kind with its argument bytes. -/
def siteRequestOf (kind : Nat) (a : List Byte) : SiteRequest :=
  match kind with
  | 0x22 => .setSiteCeiling (arg 16 0 2 a)
  | 0x23 => .setFeeder (arg 8 0 1 a) (arg 16 1 2 a) (arg 8 3 1 a) (arg 16 4 2 a) (arg 16 6 2 a)
      (arg 16 8 2 a)
  | 0x24 => .setPedestal (arg 8 0 1 a) (arg 8 1 1 a) (arg 8 2 1 a) (arg 8 3 1 a) (arg 16 4 2 a)
      (arg 8 6 1 a)
  | 0x25 => .setParameters (arg 16 0 2 a) (arg 16 2 2 a) (arg 8 4 1 a) (arg 16 5 2 a)
      (arg 16 7 2 a) (arg 8 9 1 a) (arg 8 10 1 a)
  | 0x26 => .writeTariffRow (arg 8 0 1 a) (arg 8 1 1 a) (arg 24 2 3 a) (arg 16 5 2 a)
      (arg 8 7 1 a) (arg 16 8 2 a) (arg 16 10 2 a)
  | 0x27 => .bindTariff (arg 16 0 2 a) (arg 8 2 1 a)
  | 0x28 => .setClock (arg 32 0 4 a)
  | 0x29 => .quiesce
  | 0x2A => .resume
  | 0x2B => .readAllotment (arg 8 0 1 a)
  | 0x2C => .readFeeder (arg 8 0 1 a)
  | 0x2D => .saveSettings
  | 0x2E => .acknowledge (arg 8 0 1 a)
  | 0x2F => .setLevel (arg 8 0 1 a) (arg 8 1 1 a)
  | _ => .status

/-- What the port finds in a request frame (R152, R165, R189). -/
inductive FrameReading (α : Type) where
  | badFrame (kind : Byte)
  | unknownKind (kind : Byte)
  | request (r : α)
  deriving DecidableEq, Repr

/-- R152, R165, R189: the frame check and the kind check, in that order. The kind as received is the
second byte, or 00H for a frame shorter than two bytes. -/
def readFrame {α : Type} (lengthOf : Nat → Option Nat) (build : Nat → List Byte → α)
    (frame : List Byte) (partByte : Bool) : FrameReading α :=
  let kind := frame.getD 1 0
  if partByte || frame.getD 0 0 != 0x3C || decide (frame.length < 4) || !checkHolds (frame.drop 1)
  then .badFrame kind
  else match lengthOf kind.toNat with
    | none => .unknownKind kind
    | some n =>
      if frame.length = n + 4 then .request (build kind.toNat ((frame.drop 2).take n))
      else .badFrame kind

/-- A request window's frame on the Payment Port. -/
def readPayFrame : List Byte → Bool → FrameReading PayRequest := readFrame payLength payRequestOf

/-- A write transaction's frame on the Site Port. -/
def readSiteFrame : List Byte → Bool → FrameReading SiteRequest := readFrame siteLength siteRequestOf

/-- R149: the read code of the Payment Port. -/
def readCode : Byte := 0x0F

/-- The bytes that `clocked` byte times clock out of a held frame: filler bytes of FFH beyond its end
(R153, R163). -/
def clockOut (frame : List Byte) (clocked : Nat) : List Byte :=
  frame.take clocked ++ List.replicate (clocked - frame.length) 0xFF

/-! ### The reply frame -/

/-- A reply before it is framed: its outcome and its body. -/
structure Reply where
  outcome : OutcomeCode
  body    : List Byte
  deriving DecidableEq, Repr

/-- R189: the reply frame. -/
def replyFrame (kind : Byte) (previousUnread dropped : Bool) (park : ParkState) (r : Reply) :
    List Byte :=
  closeFrame 0xC3
    ([kind] ++ bytesOf 1 r.outcome.code ++ bytesOf 1 (flagBits [previousUnread, dropped])
      ++ bytesOf 1 (ParkState.code park) ++ bytesOf 2 r.body.length ++ r.body)

/-! ### Bodies -/

/-- R191: the highest pending cause; three zero bytes when there is none. -/
def highestBytes : Option (Nat × Nat) → List Byte
  | some (c, l) => 1 :: bytesOf 1 c ++ bytesOf 1 l
  | none => [0, 0, 0]

/-- Table 12.7. -/
def segmentBytes (g : Segment) : List Byte :=
  bytesOf 1 g.row ++ bytesOf 3 g.snapshot.rate ++ bytesOf 2 g.snapshot.flatFee
    ++ bytesOf 1 g.snapshot.grace ++ bytesOf 2 g.snapshot.perMinute ++ bytesOf 2 g.snapshot.cap
    ++ stampBytes g.start ++ bytesOf 5 g.billed ++ bytesOf 7 g.raw

/-- Table 12.6 and the segments, with the two flags of the Store Controller. -/
def recordBytes (r : SettlementRecord) (notDurable corrupt : Bool) : List Byte :=
  bytesOf 4 r.session ++ bytesOf 4 r.closeSequence ++ bytesOf 1 r.pedestal.val
    ++ wordBytes 4 r.customerRef ++ bytesOf 4 r.hold
    ++ stampBytes r.opened ++ stampBytes r.authorised ++ stampBytes r.closed
    ++ bytesOf 4 r.meterStart ++ bytesOf 4 r.meterEnd
    ++ bytesOf 5 r.billed ++ bytesOf 5 r.unbilled
    ++ bytesOf 4 r.overstayMinutes ++ bytesOf 2 r.overstayFee ++ bytesOf 2 r.flatFee
    ++ bytesOf 5 r.total ++ bytesOf 1 (CloseReason.code r.closeReason)
    ++ bytesOf 1 (flagBits [r.meterDispute, r.segmentsFull, r.stopIgnored, notDurable, corrupt])
    ++ bytesOf 1 r.segments.length ++ r.segments.flatMap segmentBytes

/-- R125, R190: a record read with an uncorrectable error: the words as read, its number and close
sequence from the header, the Store Controller's own flags, the count byte as read, and as many
segments as the smaller of that count and 8. -/
def asReadBytes (e : QueueEntry) (image : BodyImage) : List Byte :=
  bytesOf 4 e.session ++ bytesOf 4 e.closeSequence ++ (image.toList.drop 8).take 56
    ++ [(image[64] &&& 0xE7) ||| BitVec.ofNat 8 (flagBits [false, false, false, e.notDurable, e.corrupt])]
    ++ (image.toList.drop 65).take (1 + 28 * min image[65].toNat 8)

/-- R119, R190: the body of a DONE reply to FETCH. -/
def QueueEntry.bytes (e : QueueEntry) : List Byte :=
  match e.body with
  | .built r => recordBytes r e.notDurable e.corrupt
  | .asRead image => asReadBytes e image

/-- R190: the session view of VIEW SESSION. -/
def sessionView (p : Pedestal) (x : Session) : List Byte :=
  bytesOf 4 x.number ++ bytesOf 1 p.val ++ bytesOf 1 (SessionState.code x.state)
    ++ optionalField 1 (x.stopReason.map StopReason.code)
    ++ optionalField 4 (x.customerRef.map (·.toNat)) ++ optionalField 4 x.hold
    ++ stampBytes x.opened ++ optionalStamp x.authorised
    ++ optionalField 4 x.meterStart
    ++ bytesOf 4 x.lastReading ++ wordBytes 4 x.lastStamp
    ++ bytesOf 5 x.billed ++ bytesOf 5 x.unbilled
    ++ bytesOf 4 x.overstayTime ++ bytesOf 4 x.overstayMinutes ++ bytesOf 2 x.overstayFee
    ++ bytesOf 2 x.flatFee
    ++ bytesOf 5 x.committed
    ++ optionalField 1 (x.parkedBy.map ParkedBy.code)
    ++ bytesOf 1 (flagBits [x.meterDispute, x.segmentsFull, x.stopIgnored])
    ++ optionalField 4 x.authorisationWindow ++ optionalField 4 x.stopWindow
    ++ optionalField 4 x.linkLossTimer
    ++ bytesOf 1 x.segments.length ++ x.segments.flatMap segmentBytes

/-- R155, R185: the body of NEXT AUTHORISATION for the head of the queue; its window is an optional
remaining time. -/
def nextAuthorisationBody (p : Pedestal) (x : Session) : List Byte :=
  bytesOf 1 p.val ++ bytesOf 4 x.number ++ stampBytes x.opened
    ++ bytesOf 3 x.current.snapshot.rate ++ optionalField 4 x.authorisationWindow

/-- Table 12.8. -/
def State.payStatusBody (s : State) : List Byte :=
  bytesOf 1 (ParkState.code s.park.state) ++ bytesOf 1 (pendingBits s.pay.notices)
    ++ highestBytes (highest s.pay.notices)
    ++ bytesOf 1 s.store.queue.length ++ bytesOf 1 s.account.authQueue.length

/-- Table 12.9. -/
def State.siteStatusBody (s : State) : List Byte :=
  bytesOf 1 (ParkState.code s.park.state) ++ bytesOf 1 (pendingBits s.site.notices)
    ++ highestBytes (highest s.site.notices) ++ stampBytes s.clockNow
    ++ bytesOf 1 s.park.openCount ++ bytesOf 1 s.store.queue.length ++ bytesOf 2 s.store.corrected

/-- Table 12.10. -/
def State.allotmentBody (s : State) (p : Pedestal) : List Byte :=
  let e := s.entry p
  let l := s.loopEntry p
  bytesOf 1 p.val ++ [flagByte e.cfg.present] ++ bytesOf 1 (Feeder.code e.cfg.feeder)
    ++ bytesOf 1 e.cfg.cls.val ++ bytesOf 2 e.cfg.cap ++ bytesOf 1 (RampMode.code e.cfg.rampMode)
    ++ bytesOf 2 l.request ++ bytesOf 2 e.demand ++ [flagByte e.admitted] ++ bytesOf 2 e.target
    ++ bytesOf 2 e.grant ++ optionalField 4 e.rampTimer ++ optionalField 2 e.tracking
    ++ bytesOf 1 e.runCount ++ bytesOf 1 (LinkState.code l.link) ++ bytesOf 1 l.health
    ++ bytesOf 1 l.recovery ++ optionalField 4 (l.latestStamp.map (·.toNat))

/-- Table 12.11. -/
def State.feederBody (s : State) (f : Feeder) : List Byte :=
  let e := s.feeder f
  bytesOf 1 (Feeder.code f) ++ bytesOf 2 e.cfg.ceiling ++ [flagByte e.cfg.sensorEnabled]
    ++ signedBytes 2 e.cfg.tlow ++ signedBytes 2 e.cfg.thigh ++ bytesOf 2 e.cfg.floor
    ++ optionalSigned 2 e.latestTemp ++ optionalField 2 e.computed ++ bytesOf 2 e.applied
    ++ bytesOf 2 e.effective ++ [flagByte e.sensorFault] ++ bytesOf 2 (s.feederGrants f)

end Sys2Proof.Machine
end

