-- ==== Sys2Proof/Machine/Events.lean ====
section
/-! DEFINITION. What every event shares: its end (work starts, condition causes and pins follow), the
single recompute of R29, the outputs' silence while a reset is asserted (R184), the internal restart
(R183), and the arrival of a request at a port with the making of its reply (R150 to R152, R164,
R165). -/

namespace Sys2Proof.Machine
open Sys2Proof

/-! ### The end of an event -/

/-- The end of every event: an idle Store Controller starts its next item (R112), then the condition
causes and the pins stand as the event has left their conditions (R157, R158, R174). -/
def State.finish (s : State) : State := s.startWork.drive

/-- An event whose recompute, if any, is made inside it. While RESET_N is low the LS416 takes part in
nothing (R184). -/
def State.quiet (s : State) (f : State → State) : State :=
  if s.resetAsserted then s else (f s).finish

/-- An event with the single recompute of R29 at its end, where it has a cause for one. -/
def State.event (s : State) (f : State → State) : State :=
  if s.resetAsserted then s else (recomputeAfter s (f s)).finish

/-- The event of a timer's expiry: a stopped timer does not expire; a running one is taken at the
moment at which it is due (notes/assumptions/2.md). -/
def State.expiry (s : State) (timer : Option Nat) (f : State → State) : State :=
  match timer with
  | none => s
  | some left => s.event fun t => f (t.advanceTo left)

/-- R183: the internal restart, and the end of a hardware reset: every volatile item takes its reset
value; the array keeps its contents and ADDR is sampled. -/
def State.restart (s : State) : State := State.afterReset s.store.array s.addrPin s.pending

/-! ### Replies -/

/-- R151, R152: the Payment Port makes a reply: REPLY_READY holds its frame, and the dropped flag is
clear once REQUEST_DROPPED has carried it. -/
def State.payReply (s : State) (kind : Byte) (previousUnread : Bool) (r : Reply) : State :=
  { s with pay := { s.pay with
      state := .replyReady (replyFrame kind previousUnread s.pay.dropped s.park.state r)
      dropped := false } }

/-- R164, R165: the Site Port makes a reply. -/
def State.siteReply (s : State) (kind : Byte) (previousUnread : Bool) (r : Reply) : State :=
  { s with site := { s.site with
      state := .replyReady (replyFrame kind previousUnread s.site.dropped s.park.state r)
      dropped := false } }

/-- R121: the deferred reply of the Payment Port. -/
def State.payDeferred (s : State) (kind : Byte) (r : Reply) : State :=
  match s.pay.state with
  | .working previousUnread => s.payReply kind previousUnread r
  | _ => s

/-- R173: the deferred reply of the Site Port. -/
def State.siteDeferred (s : State) (kind : Byte) (r : Reply) : State :=
  match s.site.state with
  | .working previousUnread => s.siteReply kind previousUnread r
  | _ => s

/-! ### Arrivals -/

/-- How a request was treated: the state after it, and its reply, absent when it is deferred. -/
structure Treated where
  state : State
  reply : Option Reply
  deriving DecidableEq, Repr

/-- A request answered with an outcome and a body, which changes nothing else. -/
def State.answer (s : State) (o : OutcomeCode) (body : List Byte) : Treated :=
  { state := s, reply := some { outcome := o, body := body } }

/-- R152, R165, step 3: in STARTING every request but STATUS is NOT_READY, in POWER_FAIL it is
POWER_FAIL; otherwise it is treated under its own rule. -/
def State.gate (s : State) (isStatus : Bool) (treat : State → Treated) : Treated :=
  if isStatus then treat s
  else match s.park.state with
    | .starting => s.answer .notReady []
    | .powerFail => s.answer .powerFail []
    | _ => treat s

/-- R151: the arrival of a request at the Payment Port. WORKING discards it and sets the dropped flag;
IDLE and REPLY_READY take it, the latter with PREVIOUS_UNREAD. A read window that was open has ended
(notes/assumptions/10.md). -/
def State.payArrive (s : State) (kind : Byte) (treat : State → Treated) : State :=
  let t : State := { s with pay := { s.pay with window := none } }
  match t.pay.state with
  | .working _ => { t with pay := { t.pay with dropped := true } }
  | before =>
    let u := treat t
    match u.reply with
    | some r => u.state.payReply kind before.ready r
    | none => { u.state with pay := { u.state.pay with state := .working before.ready } }

/-- R164: the arrival of a request at the Site Port. -/
def State.siteArrive (s : State) (kind : Byte) (treat : State → Treated) : State :=
  match s.site.state with
  | .working _ => { s with site := { s.site with dropped := true } }
  | before =>
    let u := treat s
    match u.reply with
    | some r => u.state.siteReply kind before.ready r
    | none => { u.state with site := { u.state.site with state := .working before.ready } }

end Sys2Proof.Machine
end

