-- ==== Sys2Proof/Machine/LoopCommands.lean ====
section
/-! DEFINITION. The Loop Controller (chapter 8): rounds and exchanges (R132, R133), link health (R139 to
R143), acceptance (R137), and the meanings of ROUND_START, ANSWER_FRAME_RECEIVED and
ANSWER_WINDOW_CLOSE. -/

namespace Sys2Proof.Machine
open Sys2Proof Host

/-! ### Rounds and exchanges -/

/-- R132: the pedestal is polled in this round when its turn comes. -/
def State.polled (s : State) (p : Pedestal) : Bool :=
  (s.entry p).cfg.present &&
    ((s.loopEntry p).link != .lost || decide (s.loop.round.toNat % 8 = 0))

/-- R132, R133: the next exchange of the round begins with the first pedestal from number `start` on
that is to be polled: its directive is built and its poll frame sent, after whose last byte LOOP_DE
falls. With none left the round ends. -/
def State.beginExchange (s : State) (start : Nat) : State :=
  match pedestals.find? fun p => decide (start ≤ p.val) && s.polled p with
  | some p =>
    { s with loop := { s.loop with
        exchange := some { pedestal := p, left := Config.exchangeLimit }
        loopTx := s.pollFrame p
        driverEnable := false } }
  | none => { s with loop := { s.loop with exchange := none } }

/-- The end of an exchange with pedestal `p`: what it does, the recompute of R29, then the next
exchange of the round (R133, R137). A lowering of the tracking cap is a cause of its own, since it can
leave the cap at the value it had (R29, R60). -/
def State.endExchange (s : State) (p : Pedestal) (lowered : Bool) (f : State → State) : State :=
  if s.resetAsserted then s
  else
    let t := if lowered then (f s).recompute else recomputeAfter s (f s)
    (t.beginExchange (p.val + 1)).finish

/-! ### Link health -/

/-- R140: the link state that a health counter gives. -/
def linkOf (health : Nat) : LinkState :=
  if health < 64 then .good else if health < 128 then .doubtful else .lost

/-- R140, R142: a miss. -/
def LoopEntry.miss (e : LoopEntry) : LoopEntry :=
  let health := min (e.health + 8) 255
  match e.link with
  | .lost => { e with health := health, recovery := 0 }
  | _ => { e with health := health, link := linkOf health, recovery := 0 }

/-- R140, R142: an accepted answer. -/
def LoopEntry.good (e : LoopEntry) : LoopEntry :=
  match e.link with
  | .lost =>
    if e.recovery + 1 < 8 then { e with recovery := e.recovery + 1 }
    else { e with health := 0, link := .good, recovery := 0 }
  | _ => { e with health := e.health - 1, link := linkOf (e.health - 1), recovery := 0 }

/-- R143, R21: a change into LOST starts the link-loss timer of an authorised session; a change out of
LOST stops it. -/
def Session.linkChanged (x : Session) (link : LinkState) : Session :=
  match link with
  | .lost =>
    if SessionState.isAuthorised x.state then
      { x with linkLossTimer := some Config.linkLossTimer }
    else x
  | _ => { x with linkLossTimer := none }

/-- R143: the new loop entry of a pedestal; a change of its link state raises LINK_CHANGE and acts on
the session's timer. The recompute is made at the end of the event. -/
def State.countLink (s : State) (p : Pedestal) (e : LoopEntry) : State :=
  let t := s.putLoopEntry p e
  if (s.loopEntry p).link = e.link then t
  else
    let raised := t.raiseSite .linkChange
    match s.session p with
    | some x => raised.putSession p (x.linkChanged e.link)
    | none => raised

/-- R139: a miss. -/
def State.miss (s : State) (p : Pedestal) : State := s.countLink p (s.loopEntry p).miss

/-- R137, steps 1 and 2: link health, then stamp and store. -/
def State.storeReport (s : State) (p : Pedestal) (r : Report) : State :=
  let counted := s.countLink p (s.loopEntry p).good
  counted.putLoopEntry p
    { counted.loopEntry p with latest := some r, latestStamp := some s.time.ms }

/-- R137: the acceptance of a report: link health, stamp and store, then the Account Unit. -/
def State.accept (s : State) (p : Pedestal) (r : Report) : State :=
  (s.storeReport p r).treatReport p r s.time.ms

/-- R136: a complete answer frame is accepted, or counted as a miss. -/
def State.takeAnswer (s : State) (p : Pedestal) (frame : List Byte) : State :=
  match reportOf frame p (s.entry p).cfg.cap with
  | some r => s.accept p r
  | none => s.miss p

/-- R60: the answer frame carries a report whose draw lowers the tracking cap. -/
def State.answerLowers (s : State) (p : Pedestal) (frame : List Byte) : Bool :=
  match reportOf frame p (s.entry p).cfg.cap with
  | some r => (s.storeReport p r).reportLowers p r s.time.ms
  | none => false

/-! ### The meanings -/

/-- ROUND_START (R132): the round counter counts up and the first exchange begins. No round starts
while the loop is stopped or an exchange is in flight (notes/assumptions/5.md). -/
def execRoundStart (s : State) : Outcome State Fault Refusal :=
  .next <| match s.loop.nextRound, s.loop.exchange with
    | some left, none =>
      s.quiet fun t =>
        let u := t.advanceTo left
        ({ u with loop := { u.loop with
            round := u.loop.round + 1
            nextRound := some Config.roundPeriod } } : State).beginExchange 0
    | _, _ => s

/-- ANSWER_FRAME_RECEIVED (R137): a complete frame ends the exchange. Bytes outside an answer window
are discarded (R133), and without a complete frame the exchange goes on (R187). -/
def execAnswerFrameReceived (rx : List LoopChar) (s : State) : Outcome State Fault Refusal :=
  .next <| match s.loop.exchange, answerFrame rx with
    | some x, some frame =>
      s.endExchange x.pedestal (s.answerLowers x.pedestal frame) fun t =>
        t.takeAnswer x.pedestal frame
    | _, _ => s

/-- ANSWER_WINDOW_CLOSE (R139): the exchange ends as a miss. -/
def execAnswerWindowClose (s : State) : Outcome State Fault Refusal :=
  .next <| match s.loop.exchange with
    | some x => s.endExchange x.pedestal false fun t => t.miss x.pedestal
    | none => s

end Sys2Proof.Machine
end

