-- ==== Sys2Proof/Machine/MeasureCommands.lean ====
section
/-! DEFINITION. The Measurement Unit and derating (chapter 4): the scan (R64), codes to temperatures
(R67), the curve (R70), the application of the factor (R71, R72), the supply run counts (R66), and
the meanings of TEMPERATURE_COMPLETION and SUPPLY_COMPLETION. -/

namespace Sys2Proof.Machine
open Sys2Proof Host

/-! ### Temperature and factor -/

/-- R67: an in-range code. -/
def inRange (code : BitVec 12) : Bool := decide (16 ≤ code.toNat) && decide (code.toNat ≤ 4079)

/-- R67: the temperature of a code, in 0.1 °C. -/
def temperatureOf (code : BitVec 12) : Int := ((code.toNat * 1500 / 4096 : Nat) : Int) - 300

/-- R67, R69: the latest temperature that a code gives. -/
def latestTemperature (code : BitVec 12) : Option Int :=
  if inRange code then some (temperatureOf code) else none

/-- R70: the computed factor of a temperature under a feeder's curve. -/
def curveFactor (c : FeederConfig) (t : Int) : Nat :=
  if t ≤ c.tlow then 1000
  else if c.thigh ≤ t then c.floor
  else
    let span := (c.thigh - c.tlow).toNat
    1000 - ((1000 - c.floor) * (t - c.tlow).toNat + span - 1) / span

/-- R71: the difference of two factors, taken without sign. -/
def factorDifference (x y : Nat) : Nat := (x - y) + (y - x)

/-- R71: a computed factor replaces the applied one. -/
def FeederEntry.applies (e : FeederEntry) (f : Nat) : Bool :=
  e.firstMark || decide (10 ≤ factorDifference f e.applied) || decide (f = 1000)
    || decide (f = e.cfg.floor)

/-- R69 to R72: a temperature code evaluated for a feeder. R71 is followed also where the last sentence
of R76 says otherwise: after a SET FEEDER that one code preceded or followed, the next completion may hold
the factor in one order and replace it in the other (DEDUCED, notes/assumptions/32.md). -/
def FeederEntry.evaluate (code : BitVec 12) (e : FeederEntry) : FeederEntry :=
  if !e.cfg.sensorEnabled then
    { e with latestTemp := latestTemperature code, computed := none, sensorFault := false,
             applied := 1000 }
  else if !inRange code then
    { e with latestTemp := none, computed := none, sensorFault := true, firstMark := true,
             applied := e.cfg.floor }
  else
    let f := curveFactor e.cfg (temperatureOf code)
    { e with latestTemp := some (temperatureOf code), computed := some f, sensorFault := false,
             firstMark := false, applied := if e.applies f then f else e.applied }

/-- R73: a feeder entry written; a change of its applied factor raises DERATE_CHANGE. -/
def State.writeFeeder (s : State) (f : Feeder) (e : FeederEntry) : State :=
  let t := s.putFeeder f e
  if (s.feeder f).applied = e.applied then t else t.raiseSite .derateChange

/-- R69: the Allotment Engine treats a code for a feeder. -/
def State.evaluateCode (s : State) (f : Feeder) (code : BitVec 12) : State :=
  s.writeFeeder f ((s.feeder f).evaluate code)

/-- R64: the scan slot of a feeder's channel. -/
def channelSlot : Feeder → Nat
  | .a => 0 | .b => 2 | .c => 4 | .d => 6

/-- R64: the scan slot that is converted after slot `n` of the ring of eight. -/
def slotAfter (n : Nat) : Fin 8 := Fin.ofNat 8 (n + 1)

/-- R65: a temperature completion replaces its channel's latest code. -/
def State.storeCode (s : State) (f : Feeder) (code : BitVec 12) : State :=
  { s with meas := { s.meas with
      scanSlot := slotAfter (channelSlot f)
      latest := putCell s.meas.latest (Feeder.idx f) (some code) } }

/-- TEMPERATURE_COMPLETION (R69): the code is held, and evaluated once the configuration has been
restored. -/
def execTemperatureCompletion (f : Feeder) (code : BitVec 12) (s : State) :
    Outcome State Fault Refusal :=
  .next <| s.event fun t =>
    let held := t.storeCode f code
    if t.park.restored then held.evaluateCode f code else held

/-! ### Supply -/

/-- R66: the run counts after a SUPPLY code; the next conversion is a temperature's (R64). -/
def Measurement.supply (m : Measurement) (code : BitVec 12) : Measurement :=
  let next := slotAfter (if m.scanSlot.val % 2 = 0 then m.scanSlot.val + 1 else m.scanSlot.val)
  if code.toNat < Config.supplyThreshold then
    { m with scanSlot := next, belowRun := min (m.belowRun + 1) Config.runCountLimit, aboveRun := 0 }
  else
    { m with scanSlot := next, aboveRun := min (m.aboveRun + 1) Config.runCountLimit, belowRun := 0 }

/-- R181, R182: how Park Control acts on the run counts. -/
def State.watchSupply (s : State) : State :=
  if s.park.state ≠ .powerFail then
    if s.meas.belowRun = Config.failRun then s.enterPowerFail else s
  else if Config.goodRun ≤ s.meas.aboveRun && s.store.drained then s.restart
  else s

/-- SUPPLY_COMPLETION (R66). -/
def execSupplyCompletion (code : BitVec 12) (s : State) : Outcome State Fault Refusal :=
  .next <| s.quiet fun t => ({ t with meas := t.meas.supply code } : State).watchSupply

end Sys2Proof.Machine
end

