-- ==== Sys2Proof/Machine/StoreCommands.lean ====
section
/-! DEFINITION. The meanings of the ends of store operations (chapter 7): RECORD_WRITE_END,
SETTLED_MARK_END, ERASE_END, RESERVATION_WRITE_END and SETTINGS_SAVE_END. An operation that is not
in flight has no end (notes/assumptions/5.md). -/

namespace Sys2Proof.Machine
open Sys2Proof Host

/-- The kind of a SETTLE request (Table 12.5), which its deferred reply carries. -/
def settleKind : Byte := 0x08

/-- The kind of a SAVE SETTINGS request (Table 12.5), which its deferred reply carries. -/
def saveKind : Byte := 0x2D

/-- R116, R118: an attempt can end so: only one with a merged erase has an erase to fail. -/
def canEndSo (eraseFirst : Bool) : WriteVerify → Bool
  | .eraseFail _ => eraseFirst
  | _ => true

/-- R117, R118: how long an attempt runs from now to its end, `left` being its time to the end of its
verify: the mark step of a failed write takes 1 ms more, and an attempt whose merged erase failed
does not write. -/
def attemptTime (left : Nat) : WriteVerify → Nat
  | .pass => left
  | .fail _ _ => left + Config.markTime
  | .eraseFail _ => left - Config.recordWriteTime

/-- R117, R118, R122: an attempt of a record write ends. -/
def State.endWrite (s : State) (n : Nat) (i : RecordSlot) (retry : Bool) : WriteVerify → State
  | .pass => s.writePassed n i
  | .fail left takes => s.writeFailed n i retry (SlotCells.withMark left takes)
  | .eraseFail left => s.writeFailed n i retry left

/-- RECORD_WRITE_END (R117). -/
def execRecordWriteEnd (v : WriteVerify) (s : State) : Outcome State Fault Refusal :=
  .next <| match s.store.flight with
    | some { op := .recordWrite n i eraseFirst retry, left } =>
      if canEndSo eraseFirst v then
        s.event fun t => (t.advanceTo (attemptTime left v)).endWrite n i retry v
      else s
    | _ => s

/-- R121: the body of the reply to SETTLE: the echoed session number. -/
def State.settleEcho (s : State) (n : Nat) : List Byte :=
  match s.queued n with
  | some e => bytesOf 4 e.session
  | none => bytesOf 4 0

/-- R121: the settled mark of the head record ends. -/
def State.endMark (s : State) (n : Nat) (i : RecordSlot) : Verify Bool → State
  | .pass =>
    let marked := (s.putSlotCells i { s.slotCells i with markBlank := false }).putSlotState i .marked
    (((marked.dequeue n).joinSecond (.erase i)).putFlight none).payDeferred settleKind
      { outcome := .done, body := s.settleEcho n }
  | .fail blank =>
    let bad := (s.putSlotCells i { s.slotCells i with markBlank := blank }).putSlotState i .bad
    let back := bad.updateQueued n fun e =>
      { e with state := .presentable, notDurable := true, slot := none }
    (back.putFlight none).raiseStoreFault.payDeferred settleKind
      { outcome := .fault, body := s.settleEcho n }

/-- SETTLED_MARK_END (R121). -/
def execSettledMarkEnd (v : Verify Bool) (s : State) : Outcome State Fault Refusal :=
  .next <| match s.store.flight with
    | some { op := .settledMark n i, left } =>
      s.event fun t => (t.advanceTo left).endMark n i v
    | _ => s

/-- R122: an erase from the work list ends. -/
def State.endErase (s : State) (i : RecordSlot) : Verify SlotCells → State
  | .pass => s.erasePassed i
  | .fail left => s.eraseFailed i left

/-- ERASE_END (R122). -/
def execEraseEnd (v : Verify SlotCells) (s : State) : Outcome State Fault Refusal :=
  .next <| match s.store.flight with
    | some { op := .erase i, left } => s.event fun t => (t.advanceTo left).endErase i v
    | _ => s

/-- Writes what the counter cell holds. -/
def State.putCounter (s : State) (a : Area Nat) : State :=
  { s with store := { s.store with array := { s.store.array with counter := a } } }

/-- Writes what the settings area holds. -/
def State.putSettingsArea (s : State) (a : Area Settings) : State :=
  { s with store := { s.store with array := { s.store.array with settings := a } } }

/-- R127: a reservation write ends. -/
def State.endReservation (s : State) (l : Nat) : Verify (Area Nat) → State
  | .pass =>
    let written := (s.putCounter { contents := .good l, singles := 0 }).putFlight none
    { written with account := { written.account with reservationLimit := l } }
  | .fail left => ((s.putCounter left).putFlight none).raiseStoreFault

/-- RESERVATION_WRITE_END (R127). -/
def execReservationWriteEnd (v : Verify (Area Nat)) (s : State) : Outcome State Fault Refusal :=
  .next <| match s.store.flight with
    | some { op := .reservation l, left } => s.event fun t => (t.advanceTo left).endReservation l v
    | _ => s

/-- R128: a settings save ends, and the deferred reply is made. -/
def State.endSave (s : State) (c : Settings) : Verify (Area Settings) → State
  | .pass =>
    ((s.putSettingsArea { contents := .good c, singles := 0 }).putFlight none).siteDeferred saveKind
      { outcome := .done, body := [] }
  | .fail left =>
    ((s.putSettingsArea left).putFlight none).raiseStoreFault.siteDeferred saveKind
      { outcome := .fault, body := [] }

/-- SETTINGS_SAVE_END (R128). -/
def execSettingsSaveEnd (v : Verify (Area Settings)) (s : State) : Outcome State Fault Refusal :=
  .next <| match s.store.flight with
    | some { op := .save c, left } => s.event fun t => (t.advanceTo left).endSave c v
    | _ => s

end Sys2Proof.Machine
end

