-- ==== Sys2Proof/Machine/PayCommands.lean ====
section
/-! DEFINITION. The Payment Port (chapter 9): the matching of R10, how each payment request is treated,
and the meanings of the payment rows, the read windows among them. -/

namespace Sys2Proof.Machine
open Sys2Proof Host

/-! ### Treatment -/

/-- R10: how a named pair matches the named pedestal's slot. -/
inductive SlotMatch where
  | range
  | current (p : Pedestal) (x : Session)
  | late
  | noSession
  deriving DecidableEq, Repr

/-- R10: range check, current session, ended session, no match, in that order. -/
def State.matchSlot (s : State) (pedestal : Byte) (session : Word32) : SlotMatch :=
  match pedestalOf pedestal with
  | none => .range
  | some p =>
    if session.toNat = 0 then .range
    else if s.sessionNumber p = session.toNat then
      match s.session p with
      | some x => .current p x
      | none => .noSession
    else if (s.slot p).lastEnded = session.toNat then .late
    else .noSession

/-- R156: the echo of AUTHORISE, DECLINE and CANCEL. -/
def echoPair (pedestal : Byte) (session : Word32) : List Byte := [pedestal] ++ wordBytes 4 session

/-- STATUS (R154). -/
def State.treatPayStatus (s : State) : Treated := s.answer .done s.payStatusBody

/-- NEXT AUTHORISATION (R155). -/
def State.treatNextAuthorisation (s : State) : Treated :=
  match s.account.authQueue with
  | p :: _ =>
    match s.session p with
    | some x => s.answer .done (nextAuthorisationBody p x)
    | none => s.answer .empty []
  | [] => s.answer .empty []

/-- R11, R21: the session record after AUTHORISE: READY, with the link-loss timer running if the link
is LOST. -/
def Session.authorise (x : Session) (hold : Nat) (ref : Word32) (now : ClockStamp) (lost : Bool) :
    Session :=
  { x with
    state := .ready
    hold := some hold
    customerRef := some ref
    authorised := some now
    meterStart := some x.lastReading
    authorisationWindow := none
    linkLossTimer := if lost then some Config.linkLossTimer else x.linkLossTimer }

/-- R11: the effect of AUTHORISE on a matching session in AUTHORISING. -/
def State.authoriseSession (s : State) (p : Pedestal) (x : Session) (hold : Nat) (ref : Word32) :
    State :=
  let t := s.putSession p
    (x.authorise hold ref s.clockNow (decide ((s.loopEntry p).link = .lost)))
  { t with account := { t.account with
      authQueue := t.account.authQueue.filter fun q => decide (q ≠ p) } }

/-- AUTHORISE (R11). -/
def State.treatAuthorise (pedestal : Byte) (session hold ref : Word32) (s : State) : Treated :=
  let echo := echoPair pedestal session
  if hold.toNat = 0 || Config.holdLimit < hold.toNat then s.answer .range echo
  else match s.matchSlot pedestal session with
    | .range => s.answer .range echo
    | .late => s.answer .late echo
    | .noSession => s.answer .noSession echo
    | .current p x =>
      if x.state = .authorising then
        (s.authoriseSession p x hold.toNat ref).answer .done echo
      else s.answer .wrongState echo

/-- DECLINE (R13). -/
def State.treatDecline (pedestal : Byte) (session : Word32) (s : State) : Treated :=
  let echo := echoPair pedestal session
  match s.matchSlot pedestal session with
  | .range => s.answer .range echo
  | .late => s.answer .late echo
  | .noSession => s.answer .noSession echo
  | .current p x =>
    if x.state = .authorising then (s.void p true).answer .done echo
    else s.answer .wrongState echo

/-- CANCEL (R20). -/
def State.treatCancel (pedestal : Byte) (session : Word32) (s : State) : Treated :=
  let echo := echoPair pedestal session
  let done (t : State) (r : CancelResult) : Treated := t.answer .done (echo ++ bytesOf 1 r.code)
  match s.matchSlot pedestal session with
  | .range => s.answer .range echo
  | .late => s.answer .late echo
  | .noSession => s.answer .noSession echo
  | .current p x =>
    match x.state with
    | .authorising => done (s.void p true) .voided
    | .ready => done (s.close p .cancelled true) .closed
    | .delivering => done (s.enterStopping p .cancelled) .stopping
    | .stopping | .parked => s.answer .alreadyEnding echo

/-- VIEW SESSION (R155). -/
def State.treatViewSession (pedestal : Byte) (s : State) : Treated :=
  match pedestalOf pedestal with
  | none => s.answer .range []
  | some p =>
    match s.session p with
    | some x => s.answer .done (sessionView p x)
    | none => s.answer .noSession []

/-- FETCH (R119). -/
def State.treatFetch (s : State) : Treated :=
  match s.store.queue with
  | e :: _ => if e.state = .presentable then s.answer .done e.bytes else s.answer .empty []
  | [] => s.answer .empty []

/-- R120: the settled mark of a durable head record joins the first class. -/
def State.settleHead (s : State) (e : QueueEntry) : State :=
  (s.updateQueued e.closeSequence fun y => { y with state := .settling }).joinFirst
    (.settledMark e.closeSequence)

/-- SETTLE (R120). -/
def State.treatSettle (session : Word32) (s : State) : Treated :=
  let echo := wordBytes 4 session
  match s.store.queue with
  | [] => s.answer .unknown echo
  | e :: rest =>
    if e.session = session.toNat then
      match e.state with
      | .presentable =>
        if e.notDurable then (s.dequeue e.closeSequence).answer .done echo
        else { state := s.settleHead e, reply := none }
      | .writing | .settling => s.answer .empty echo
    else if rest.any fun y => decide (y.session = session.toNat) then s.answer .notHead echo
    else s.answer .unknown echo

/-- ACKNOWLEDGE (R159). -/
def State.treatPayAcknowledge (mask : Byte) (s : State) : Treated :=
  if 32 ≤ mask.toNat then s.answer .range []
  else
    let t : State := { s with pay := { s.pay with
      notices := acknowledge s.pay.notices mask payCondition } }
    t.answer .done (bytesOf 1 (pendingBits t.pay.notices))

/-- SET LEVEL (R160). -/
def State.treatPaySetLevel (cause level : Byte) (s : State) : Treated :=
  if h : cause.toNat < 5 ∧ level.toNat < 8 then
    ({ s with pay := { s.pay with
        notices := setLevel s.pay.notices ⟨cause.toNat, h.1⟩ ⟨level.toNat, h.2⟩ } } : State).answer
      .done []
  else s.answer .range []

/-- R152, step 4: each payment request under its own rule. -/
def PayRequest.treat : PayRequest → State → Treated
  | .status => State.treatPayStatus
  | .nextAuthorisation => State.treatNextAuthorisation
  | .authorise p n h r => State.treatAuthorise p n h r
  | .decline p n => State.treatDecline p n
  | .cancel p n => State.treatCancel p n
  | .viewSession p => State.treatViewSession p
  | .fetch => State.treatFetch
  | .settle n => State.treatSettle n
  | .acknowledge m => State.treatPayAcknowledge m
  | .setLevel c l => State.treatPaySetLevel c l

/-- R152: STATUS passes the park state's check. -/
def PayRequest.isStatus : PayRequest → Bool
  | .status => true
  | _ => false

/-- The event of a well-formed payment request's arrival (R151, R152). -/
def State.payRequest (s : State) (r : PayRequest) : State :=
  s.event fun t => t.payArrive r.kind fun u => u.gate r.isStatus r.treat

/-- The event of an arrival that fails the port's own checks (R152). -/
def State.payRefusal (s : State) (kind : Byte) (o : OutcomeCode) : State :=
  s.event fun t => t.payArrive kind fun u => u.answer o []

/-! ### Read windows -/

/-- R149: a read window opens; the port's state then decides what it sends. -/
def State.openWindow (s : State) : State :=
  { s with pay := { s.pay with window := some s.pay.state.ready } }

/-- R153: a read window closes after `clocked` bytes: the held reply or filler was sent, and a reply
read in full returns the port to IDLE. A window whose opening was no command of its own opens
here. -/
def State.closeWindow (s : State) (clocked : Nat) : State :=
  let sends := s.pay.window.getD s.pay.state.ready
  match sends, s.pay.state with
  | true, .replyReady frame =>
    { s with pay := { s.pay with
        window := none
        payDo := clockOut frame clocked
        state := if frame.length ≤ clocked then .idle else .replyReady frame } }
  | _, _ => { s with pay := { s.pay with window := none, payDo := clockOut [] clocked } }

/-! ### The meanings -/

/-- PAY_STATUS (R154). -/
def execPayStatus (s : State) : Outcome State Fault Refusal := .next (s.payRequest .status)

/-- NEXT_AUTHORISATION (R155). -/
def execNextAuthorisation (s : State) : Outcome State Fault Refusal :=
  .next (s.payRequest .nextAuthorisation)

/-- AUTHORISE (R11). -/
def execAuthorise (pedestal : Byte) (session hold ref : Word32) (s : State) :
    Outcome State Fault Refusal :=
  .next (s.payRequest (.authorise pedestal session hold ref))

/-- DECLINE (R13). -/
def execDecline (pedestal : Byte) (session : Word32) (s : State) : Outcome State Fault Refusal :=
  .next (s.payRequest (.decline pedestal session))

/-- CANCEL (R20). -/
def execCancel (pedestal : Byte) (session : Word32) (s : State) : Outcome State Fault Refusal :=
  .next (s.payRequest (.cancel pedestal session))

/-- VIEW_SESSION (R155). -/
def execViewSession (pedestal : Byte) (s : State) : Outcome State Fault Refusal :=
  .next (s.payRequest (.viewSession pedestal))

/-- FETCH (R119). -/
def execFetch (s : State) : Outcome State Fault Refusal := .next (s.payRequest .fetch)

/-- SETTLE (R120). -/
def execSettle (session : Word32) (s : State) : Outcome State Fault Refusal :=
  .next (s.payRequest (.settle session))

/-- PAY_ACKNOWLEDGE (R159). -/
def execPayAcknowledge (mask : Byte) (s : State) : Outcome State Fault Refusal :=
  .next (s.payRequest (.acknowledge mask))

/-- PAY_SET_LEVEL (R160). -/
def execPaySetLevel (cause level : Byte) (s : State) : Outcome State Fault Refusal :=
  .next (s.payRequest (.setLevel cause level))

/-- PAY_UNKNOWN_REQUEST (R152). A window without a byte changes nothing, one that begins with the read
code is a read window (R149), and a frame that does name a payment kind is that request. -/
def execPayUnknownRequest (frame : List Byte) (partByte : Bool) (s : State) :
    Outcome State Fault Refusal :=
  .next <| match frame with
    | [] => s
    | first :: rest =>
      if first = readCode then s.quiet fun t => t.openWindow.closeWindow rest.length
      else match readPayFrame frame partByte with
        | .badFrame kind => s.payRefusal kind .badFrame
        | .unknownKind kind => s.payRefusal kind .unknownKind
        | .request r => s.payRequest r

/-- PAY_READ_WINDOW (R153). -/
def execPayReadWindow (clocked : Nat) (s : State) : Outcome State Fault Refusal :=
  .next <| s.quiet fun t => t.closeWindow clocked

/-- READ_WINDOW_OPENS (R149). -/
def execReadWindowOpens (s : State) : Outcome State Fault Refusal :=
  .next <| s.quiet State.openWindow

end Sys2Proof.Machine
end

