-- ==== Sys2Proof/Machine/SiteCommands.lean ====
section
/-! DEFINITION. The Site Port (chapter 10): how each site request is treated, and the meanings of the
site rows. A configuration request makes its single recompute inside its treatment, before its
reply (R28). -/

namespace Sys2Proof.Machine
open Sys2Proof Host

/-! ### Treatment -/

/-- STATUS (R171). -/
def State.treatSiteStatus (s : State) : Treated := s.answer .done s.siteStatusBody

/-- SET SITE CEILING (R166). -/
def State.treatSetSiteCeiling (ceiling : BitVec 16) (s : State) : Treated :=
  let stored := min ceiling.toNat Config.siteCeilingLimit
  let t : State := { s with allot := { s.allot with siteCeiling := stored } }
  t.recompute.answer (doneIf (decide (stored = ceiling.toNat))) (bytesOf 2 stored)

/-- R74: a feeder entry after a SET FEEDER that is taken. -/
def FeederEntry.configure (e : FeederEntry) (c : FeederConfig) : FeederEntry :=
  if !c.sensorEnabled then
    { e with cfg := c, computed := none, sensorFault := false, firstMark := true, applied := 1000 }
  else if !e.cfg.sensorEnabled then { e with cfg := c, firstMark := true }
  else
    { e with
      cfg := c
      firstMark := true
      applied := if e.sensorFault then c.floor else max e.applied c.floor }

/-- R166: a temperature argument is in its range. -/
def temperatureInRange (t : Int) : Bool := decide (-300 ≤ t) && decide (t ≤ 1199)

/-- R166: the configuration that SET FEEDER's arguments give, its ceiling clamped; absent when they are
refused with RANGE. -/
def feederConfigOf (ceiling : BitVec 16) (sensor : Byte) (tlow thigh floor : BitVec 16) :
    Option FeederConfig :=
  match flagOf sensor with
  | none => none
  | some enabled =>
    if temperatureInRange tlow.toInt && temperatureInRange thigh.toInt
        && decide (tlow.toInt < thigh.toInt) && decide (floor.toNat ≤ 1000) then
      some { ceiling := min ceiling.toNat Config.feederCeilingLimit, sensorEnabled := enabled,
             tlow := tlow.toInt, thigh := thigh.toInt, floor := floor.toNat }
    else none

/-- R166: the stored values, then the applied factor and the effective ceiling. -/
def FeederEntry.replyBody (e : FeederEntry) : List Byte :=
  bytesOf 2 e.cfg.ceiling ++ [flagByte e.cfg.sensorEnabled] ++ signedBytes 2 e.cfg.tlow
    ++ signedBytes 2 e.cfg.thigh ++ bytesOf 2 e.cfg.floor ++ bytesOf 2 e.applied
    ++ bytesOf 2 e.effective

/-- SET FEEDER (R166, R74). -/
def State.treatSetFeeder (feeder : Byte) (ceiling : BitVec 16) (sensor : Byte)
    (tlow thigh floor : BitVec 16) (s : State) : Treated :=
  match feederOf feeder, feederConfigOf ceiling sensor tlow thigh floor with
  | some f, some c =>
    let t := (s.writeFeeder f ((s.feeder f).configure c)).recompute
    t.answer (doneIf (decide (c.ceiling = ceiling.toNat))) (t.feeder f).replyBody
  | _, _ => s.answer .range []

/-- R167: the configuration that SET PEDESTAL's arguments give, its cap clamped; absent when they are
refused with RANGE. -/
def pedestalConfigOf (present feeder cls : Byte) (cap : BitVec 16) (rampMode : Byte) :
    Option PedestalConfig :=
  match flagOf present, feederOf feeder, classOf cls, rampModeOf rampMode with
  | some a, some f, some c, some m =>
    some { present := a, feeder := f, cls := c, cap := min cap.toNat Config.capLimit, rampMode := m }
  | _, _, _, _ => none

/-- R167: the echoed pedestal number and the stored values. -/
def pedestalReply (pedestal : Byte) (c : PedestalConfig) : List Byte :=
  [pedestal, flagByte c.present] ++ bytesOf 1 (Feeder.code c.feeder) ++ bytesOf 1 c.cls.val
    ++ bytesOf 2 c.cap ++ bytesOf 1 (RampMode.code c.rampMode)

/-- R28, R144: the configuration stored; a change of the present flag restarts the loop entry. -/
def State.configurePedestal (s : State) (p : Pedestal) (c : PedestalConfig) : State :=
  let t := s.putEntry p { s.entry p with cfg := c }
  if c.present = (s.entry p).cfg.present then t else t.putLoopEntry p LoopEntry.reset

/-- SET PEDESTAL (R167). -/
def State.treatSetPedestal (pedestal present feeder cls : Byte) (cap : BitVec 16) (rampMode : Byte)
    (s : State) : Treated :=
  match pedestalOf pedestal, pedestalConfigOf present feeder cls cap rampMode with
  | some p, some c =>
    if (s.session p).isSome then s.answer .busyPedestal [pedestal]
    else (s.configurePedestal p c).recompute.answer (doneIf (decide (c.cap = cap.toNat)))
      (pedestalReply pedestal c)
  | _, _ => s.answer .range [pedestal]

/-- R63: the tracking state of an entry when the tracking mode changes. -/
def AllotEntry.clearTracking (e : AllotEntry) : AllotEntry := { e with tracking := none, runCount := 0 }

/-- R63, R168: the parameters stored; a change of the tracking mode clears every tracking state. -/
def State.configureParameters (s : State) (q : Parameters) (startQuiesced : Bool) : State :=
  { s with
    allot := { s.allot with
      parameters := q
      entries := if q.trackingOn = s.allot.parameters.trackingOn then s.allot.entries
        else mapCells (fun _ e => e.clearTracking) s.allot.entries }
    park := { s.park with startQuiesced := startQuiesced } }

/-- R168: every value as stored. The hold reserve, whose width in a body Table 12.1 does not list, is sent
in the two bytes of its argument (DEDUCED, notes/assumptions/31.md). -/
def parametersReply (q : Parameters) (startQuiesced : Bool) : List Byte :=
  bytesOf 2 q.minGrant ++ bytesOf 2 q.step ++ bytesOf 1 q.stepInterval ++ bytesOf 2 q.slack
    ++ bytesOf 2 q.holdReserve ++ [flagByte q.trackingOn, flagByte startQuiesced]

/-- SET PARAMETERS (R168). -/
def State.treatSetParameters (minGrant step : BitVec 16) (stepInterval : Byte)
    (slack holdReserve : BitVec 16) (tracking startQuiesced : Byte) (s : State) : Treated :=
  match flagOf tracking, flagOf startQuiesced with
  | some on, some quiesced =>
    let q : Parameters :=
      { minGrant := clamp 10 500 minGrant.toNat, step := clamp 10 1000 step.toNat,
        stepInterval := clamp 1 15 stepInterval.toNat, slack := clamp 10 500 slack.toNat,
        holdReserve := clamp 0 1000 holdReserve.toNat, trackingOn := on }
    let asSent := decide (q.minGrant = minGrant.toNat) && decide (q.step = step.toNat)
      && decide (q.stepInterval = stepInterval.toNat) && decide (q.slack = slack.toNat)
      && decide (q.holdReserve = holdReserve.toNat)
    (s.configureParameters q quiesced).recompute.answer (doneIf asSent) (parametersReply q quiesced)
  | _, _ => s.answer .range []

/-- R93: a present pedestal is bound to the row. -/
def State.rowBound (s : State) (r : RowIndex) : Bool :=
  pedestals.any fun p => (s.entry p).cfg.present && decide (cell s.account.bindings p = r)

/-- WRITE TARIFF ROW (R93). -/
def State.treatWriteTariffRow (row valid : Byte) (rate : BitVec 24) (flatFee : BitVec 16)
    (grace : Byte) (perMinute cap : BitVec 16) (s : State) : Treated :=
  match rowOf row, flagOf valid with
  | some r, some v =>
    if Config.rateLimit < rate.toNat then s.answer .range [row]
    else if !v && s.rowBound r then s.answer .rowBound [row]
    else
      let written : TariffRow :=
        { valid := v
          tariff := { rate := rate.toNat, flatFee := flatFee.toNat, grace := grace.toNat,
                      perMinute := perMinute.toNat, cap := cap.toNat } }
      ({ s with account := { s.account with rows := putCell s.account.rows r written } } : State).answer
        .done [row]
  | _, _ => s.answer .range [row]

/-- R169: the echo of BIND TARIFF. -/
def bindEcho (mask : BitVec 16) (row : Byte) : List Byte := wordBytes 2 mask ++ [row]

/-- BIND TARIFF (R95). -/
def State.treatBindTariff (mask : BitVec 16) (row : Byte) (s : State) : Treated :=
  match rowOf row with
  | none => s.answer .range (bindEcho mask row)
  | some r =>
    if (cell s.account.rows r).valid then (s.bindMask mask r).answer .done (bindEcho mask row)
    else s.answer .invalidRow (bindEcho mask row)

/-- SET CLOCK (R169, R179). -/
def State.treatSetClock (seconds : Word32) (s : State) : Treated :=
  ({ s with time := { s.time with clock := seconds, phase := 0, clockSet := true } } : State).answer
    .done []

/-- R170: the body of a reply to QUIESCE or RESUME. -/
def State.parkBody (s : State) : List Byte := bytesOf 1 (ParkState.code s.park.state)

/-- R180: QUIESCE at Park Control. -/
def State.quiescePark (s : State) : State :=
  match s.park.state with
  | .open => s.enterPark (if s.park.openCount = 0 then .quiesced else .draining)
  | _ => s

/-- R180: RESUME at Park Control. -/
def State.resumePark (s : State) : State :=
  match s.park.state with
  | .draining | .quiesced => s.enterPark .open
  | _ => s

/-- QUIESCE (R170, R180). -/
def State.treatQuiesce (s : State) : Treated := s.quiescePark.answer .done s.quiescePark.parkBody

/-- RESUME (R170, R180). -/
def State.treatResume (s : State) : Treated := s.resumePark.answer .done s.resumePark.parkBody

/-- READ ALLOTMENT (R171). -/
def State.treatReadAllotment (pedestal : Byte) (s : State) : Treated :=
  match pedestalOf pedestal with
  | some p => s.answer .done (s.allotmentBody p)
  | none => s.answer .range []

/-- READ FEEDER (R171). -/
def State.treatReadFeeder (feeder : Byte) (s : State) : Treated :=
  match feederOf feeder with
  | some f => s.answer .done (s.feederBody f)
  | none => s.answer .range []

/-- SAVE SETTINGS (R173): the copy is taken now; the reply waits for the save's end. -/
def State.treatSaveSettings (s : State) : Treated :=
  { state := s.joinSecond (.save s.settings), reply := none }

/-- ACKNOWLEDGE (R175). -/
def State.treatSiteAcknowledge (mask : Byte) (s : State) : Treated :=
  if 128 ≤ mask.toNat then s.answer .range []
  else
    let t : State := { s with site := { s.site with
      notices := acknowledge s.site.notices mask siteCondition } }
    t.answer .done (bytesOf 1 (pendingBits t.site.notices))

/-- SET LEVEL (R175). -/
def State.treatSiteSetLevel (cause level : Byte) (s : State) : Treated :=
  if h : cause.toNat < 7 ∧ level.toNat < 8 then
    ({ s with site := { s.site with
        notices := setLevel s.site.notices ⟨cause.toNat, h.1⟩ ⟨level.toNat, h.2⟩ } } : State).answer
      .done []
  else s.answer .range []

/-- R165, step 4: each site request under its own rule. -/
def SiteRequest.treat : SiteRequest → State → Treated
  | .status => State.treatSiteStatus
  | .setSiteCeiling c => State.treatSetSiteCeiling c
  | .setFeeder f c e tl th fl => State.treatSetFeeder f c e tl th fl
  | .setPedestal p a f c cap m => State.treatSetPedestal p a f c cap m
  | .setParameters m st i sl h t q => State.treatSetParameters m st i sl h t q
  | .writeTariffRow r v e ff g pm cap => State.treatWriteTariffRow r v e ff g pm cap
  | .bindTariff m r => State.treatBindTariff m r
  | .setClock t => State.treatSetClock t
  | .quiesce => State.treatQuiesce
  | .resume => State.treatResume
  | .readAllotment p => State.treatReadAllotment p
  | .readFeeder f => State.treatReadFeeder f
  | .saveSettings => State.treatSaveSettings
  | .acknowledge m => State.treatSiteAcknowledge m
  | .setLevel c l => State.treatSiteSetLevel c l

/-- R165: STATUS passes the park state's check. -/
def SiteRequest.isStatus : SiteRequest → Bool
  | .status => true
  | _ => false

/-- The event of a well-formed site request's arrival (R164, R165). -/
def State.siteRequest (s : State) (r : SiteRequest) : State :=
  s.quiet fun t => t.siteArrive r.kind fun u => u.gate r.isStatus r.treat

/-- The event of an arrival that fails the port's own checks (R165). -/
def State.siteRefusal (s : State) (kind : Byte) (o : OutcomeCode) : State :=
  s.quiet fun t => t.siteArrive kind fun u => u.answer o []

/-- R163: a read transaction to the port's address: acknowledged only in REPLY_READY; a reply whose
last byte was clocked out returns the port to IDLE. -/
def State.readTransaction (s : State) (clocked : Nat) : State :=
  match s.site.state with
  | .replyReady frame =>
    { s with site := { s.site with
        siteRead := some (clockOut frame clocked)
        state := if frame.length ≤ clocked then .idle else .replyReady frame } }
  | _ => { s with site := { s.site with siteRead := none } }

/-! ### The meanings -/

/-- SITE_STATUS (R171). -/
def execSiteStatus (s : State) : Outcome State Fault Refusal := .next (s.siteRequest .status)

/-- SET_SITE_CEILING (R166). -/
def execSetSiteCeiling (ceiling : BitVec 16) (s : State) : Outcome State Fault Refusal :=
  .next (s.siteRequest (.setSiteCeiling ceiling))

/-- SET_FEEDER (R166). -/
def execSetFeeder (feeder : Byte) (ceiling : BitVec 16) (sensor : Byte) (tlow thigh floor : BitVec 16)
    (s : State) : Outcome State Fault Refusal :=
  .next (s.siteRequest (.setFeeder feeder ceiling sensor tlow thigh floor))

/-- SET_PEDESTAL (R167). -/
def execSetPedestal (pedestal present feeder cls : Byte) (cap : BitVec 16) (rampMode : Byte)
    (s : State) : Outcome State Fault Refusal :=
  .next (s.siteRequest (.setPedestal pedestal present feeder cls cap rampMode))

/-- SET_PARAMETERS (R168). -/
def execSetParameters (minGrant step : BitVec 16) (stepInterval : Byte) (slack holdReserve : BitVec 16)
    (tracking startQuiesced : Byte) (s : State) : Outcome State Fault Refusal :=
  .next (s.siteRequest
    (.setParameters minGrant step stepInterval slack holdReserve tracking startQuiesced))

/-- WRITE_TARIFF_ROW (R93). -/
def execWriteTariffRow (row valid : Byte) (rate : BitVec 24) (flatFee : BitVec 16) (grace : Byte)
    (perMinute cap : BitVec 16) (s : State) : Outcome State Fault Refusal :=
  .next (s.siteRequest (.writeTariffRow row valid rate flatFee grace perMinute cap))

/-- BIND_TARIFF (R95). -/
def execBindTariff (mask : BitVec 16) (row : Byte) (s : State) : Outcome State Fault Refusal :=
  .next (s.siteRequest (.bindTariff mask row))

/-- SET_CLOCK (R169). -/
def execSetClock (seconds : Word32) (s : State) : Outcome State Fault Refusal :=
  .next (s.siteRequest (.setClock seconds))

/-- QUIESCE (R180). -/
def execQuiesce (s : State) : Outcome State Fault Refusal := .next (s.siteRequest .quiesce)

/-- RESUME (R180). -/
def execResume (s : State) : Outcome State Fault Refusal := .next (s.siteRequest .resume)

/-- READ_ALLOTMENT (R171). -/
def execReadAllotment (pedestal : Byte) (s : State) : Outcome State Fault Refusal :=
  .next (s.siteRequest (.readAllotment pedestal))

/-- READ_FEEDER (R171). -/
def execReadFeeder (feeder : Byte) (s : State) : Outcome State Fault Refusal :=
  .next (s.siteRequest (.readFeeder feeder))

/-- SAVE_SETTINGS (R173). -/
def execSaveSettings (s : State) : Outcome State Fault Refusal := .next (s.siteRequest .saveSettings)

/-- SITE_ACKNOWLEDGE (R175). -/
def execSiteAcknowledge (mask : Byte) (s : State) : Outcome State Fault Refusal :=
  .next (s.siteRequest (.acknowledge mask))

/-- SITE_SET_LEVEL (R175). -/
def execSiteSetLevel (cause level : Byte) (s : State) : Outcome State Fault Refusal :=
  .next (s.siteRequest (.setLevel cause level))

/-- SITE_UNKNOWN_REQUEST (R165). A transaction without a complete byte changes nothing (R162), and a
frame that does name a site kind is that request. -/
def execSiteUnknownRequest (frame : List Byte) (partByte : Bool) (s : State) :
    Outcome State Fault Refusal :=
  .next <| match frame with
    | [] => s
    | _ :: _ =>
      match readSiteFrame frame partByte with
      | .badFrame kind => s.siteRefusal kind .badFrame
      | .unknownKind kind => s.siteRefusal kind .unknownKind
      | .request r => s.siteRequest r

/-- SITE_READ_TRANSACTION (R163). -/
def execSiteReadTransaction (clocked : Nat) (s : State) : Outcome State Fault Refusal :=
  .next <| s.quiet fun t => t.readTransaction clocked

end Sys2Proof.Machine
end

