-- ==== Sys2Proof/Machine/StartCommands.lean ====
section
/-! DEFINITION. Resets and start-up (chapters 7 and 11): HARDWARE_RESET_ASSERT, HARDWARE_RESET_END,
RESTORE_END with its reading of the settings area and the counter cell (R126, R129), and SCAN_END
with the rebuild of the settlement queue (R124, R125). -/

namespace Sys2Proof.Machine
open Sys2Proof Host

/-! ### Hardware reset -/

/-- R184, R113: RESET_N low: the operation in flight is cut and the work list discarded, the exchange
and any window are cut, the outputs are inactive, nothing is sent on PAY_DO and the Site Port
acknowledges no address. -/
def State.assertReset (s : State) (cut : CutPoint) : State :=
  { s with
    store := { s.store with
      array := s.cutArray cut
      firstClass := []
      secondClass := []
      flight := none }
    loop := { s.loop with exchange := none, nextRound := none, driverEnable := false }
    pay := { s.pay with window := none, payDo := [], rdy := false, atn := false }
    site := { s.site with siteRead := none, atn := false }
    resetAsserted := true }

/-- HARDWARE_RESET_ASSERT (R184). -/
def execHardwareResetAssert (cut : CutPoint) (s : State) : Outcome State Fault Refusal :=
  .next <| if s.resetAsserted then s else s.assertReset cut

/-- HARDWARE_RESET_END (R184): every volatile item takes its reset value, and STARTING begins. -/
def execHardwareResetEnd (s : State) : Outcome State Fault Refusal := .next s.restart

/-! ### The restore -/

/-- R111: the medium as the restore reads it. -/
def State.ageAreas (s : State) (r : RestoreReading) : State :=
  { s with store := { s.store with array := { s.store.array with
      settings := r.settings.getD s.store.array.settings
      counter := r.counter.getD s.store.array.counter } } }

/-- R129: the settings restored into their blocks, or the defaults and SETTINGS_LOST. -/
def State.restoreSettings (s : State) : State :=
  match s.store.array.settings.contents with
  | .good c => s.loadSettings c
  | _ => (s.loadSettings Settings.default).raiseSite .settingsLost

/-- R126: the session-number counter and the reservation limit take the value of the cell, or start
at 1 with SETTINGS_LOST. -/
def State.restoreCounter (s : State) : State :=
  match s.store.array.counter.contents with
  | .good l => { s with account := { s.account with nextNumber := l, reservationLimit := l } }
  | _ =>
    ({ s with account := { s.account with nextNumber := 1, reservationLimit := 1 } } : State).raiseSite
      .settingsLost

/-- R69: a latest code that was held during the restore is evaluated when it ends. -/
def State.evaluateHeld (s : State) (f : Feeder) : State :=
  match cell s.meas.latest (Feeder.idx f) with
  | some code => s.evaluateCode f code
  | none => s

/-- R177, step 1: the restore ends: counts, settings, counter cell, the held codes in feeder order,
the recompute, and the scan begins. The single-bit errors it corrected are counted at this end, so an
abandoned restore counts none (DESIGN CHOICE, notes/assumptions/30.md). -/
def State.endRestore (s : State) (r : RestoreReading) : State :=
  let aged := s.ageAreas r
  let counted := aged.countCorrected
    (aged.store.array.settings.singles + aged.store.array.counter.singles)
  let loaded := counted.restoreSettings.restoreCounter
  let begun : State := { loaded with park := { loaded.park with
    startStep := some .scan, restored := true } }
  ([Feeder.a, .b, .c, .d].foldl State.evaluateHeld begun).recompute

/-- RESTORE_END (R129). -/
def execRestoreEnd (r : RestoreReading) (s : State) : Outcome State Fault Refusal :=
  .next <| match s.park.startStep with
    | some .restore => s.quiet fun t => t.endRestore r
    | _ => s

/-! ### The scan -/

/-- A record that the scan finds (R125). -/
structure Found where
  slot          : RecordSlot
  session       : Nat
  closeSequence : Nat
  body          : RecordBody
  corrupt       : Bool
  deriving DecidableEq, Repr

/-- R125: the contents of a rebuilt record: its body, with number and close sequence from the header. -/
def rebuiltBody (session closeSequence : Nat) : Body → Option RecordBody
  | .blank => none
  | .record r => some (.built { r with session := session, closeSequence := closeSequence })
  | .damaged image => some (.asRead image)

/-- R125: the body has an uncorrectable error. -/
def Body.isDamaged : Body → Bool
  | .damaged _ => true
  | _ => false

/-- Table 7.3: the record in a slot, when its header is valid and its mark area blank. A blank body
under a header fails the header's check, which covers the body (R110). -/
def foundIn (i : RecordSlot) (x : SlotCells) : Option Found :=
  match x.header with
  | .valid session closeSequence =>
    if x.markBlank then
      match rebuiltBody session closeSequence x.body with
      | some b => some { slot := i, session := session, closeSequence := closeSequence, body := b,
                         corrupt := Body.isDamaged x.body }
      | none => none
    else none
  | _ => none

/-- Table 7.3: the slot holds nothing. -/
def isBlank (x : SlotCells) : Bool :=
  x.markBlank && decide (x.header = .blank) && decide (x.body = .blank)

/-- R125: of two copies of one session, the one without CORRUPT is kept, else the lower slot. -/
def Found.beats (x y : Found) : Bool :=
  decide (x.session = y.session) &&
    ((!x.corrupt && y.corrupt) || (x.corrupt == y.corrupt && decide (x.slot < y.slot)))

/-- R125: the records the scan keeps. -/
def keepBest (found : List Found) : List Found :=
  found.filter fun y => !found.any fun x => x.beats y

/-- R125: puts a record in its place by close sequence. Two rebuilt records of different sessions with
equal close sequences, which R125 does not order, stand with the one of the lower slot first (DESIGN
CHOICE, notes/assumptions/29.md): the records are inserted from the highest slot down. -/
def insertFound (x : Found) : List Found → List Found
  | [] => [x]
  | y :: rest => if x.closeSequence ≤ y.closeSequence then x :: y :: rest else y :: insertFound x rest

/-- R125: the queue entry of a kept record: PRESENTABLE, durable and HELD in its slot. -/
def Found.entry (x : Found) : QueueEntry :=
  { session := x.session, closeSequence := x.closeSequence, body := x.body, state := .presentable,
    notDurable := false, corrupt := x.corrupt, slot := some x.slot, eraseFirst := false }

/-- The records the scan finds in the array, slot by slot. -/
def NvArray.found (a : NvArray) : List Found :=
  recordSlots.filterMap fun i => foundIn i (cell a.slots i)

/-- R124, R125: the state that the scan gives a slot. -/
def scanSlotState (kept : List Found) (i : RecordSlot) (x : SlotCells) : SlotState :=
  if kept.any fun y => decide (y.slot = i) then .held
  else if isBlank x then .free
  else .marked

/-- R125: one more than the largest close sequence rebuilt, or 1. -/
def closeCounterAfter (kept : List Found) : Nat :=
  (kept.map fun y => y.closeSequence + 1).foldl max 1

/-- R111: the single-bit errors that a scan of the array corrects. -/
def NvArray.slotSingles (a : NvArray) : Nat := (a.slots.toList.map (·.singles)).sum

/-- R111: the medium as the scan reads it. -/
def State.ageSlots (s : State) (aged : List (RecordSlot × SlotCells)) : State :=
  aged.foldl (fun t x => t.putSlotCells x.1 x.2) s

/-- R124 to R126: slot states, queue, close-sequence counter, erases and the reservation write. -/
def State.rebuild (s : State) : State :=
  let kept := keepBest s.store.array.found
  let states := mapCells (scanSlotState kept) s.store.array.slots
  { s with
    store := { s.store with
      slotStates := states
      queue := (kept.foldr insertFound []).map Found.entry
      secondClass := s.store.secondClass ++
        (recordSlots.filter fun i => decide (cell states i = .marked)).map .erase
      firstClass := s.store.firstClass ++
        [.reservation (nextReservation s.account.reservationLimit)] }
    account := { s.account with nextClose := closeCounterAfter kept } }

/-- R177, steps 2 to 5: the scan ends: the queue is rebuilt, the reservation queued, the park opens or
quiesces, and round 0 begins. The single-bit errors it corrected are counted at this end, so an
abandoned scan counts none (DESIGN CHOICE, notes/assumptions/30.md). -/
def State.endScan (s : State) (aged : List (RecordSlot × SlotCells)) : State :=
  let read := s.ageSlots aged
  let rebuilt := (read.countCorrected read.store.array.slotSingles).rebuild
  let ended : State := { rebuilt with park := { rebuilt.park with startStep := none } }
  let opened := ended.enterPark (if ended.park.startQuiesced then .quiesced else .open)
  ({ opened with loop := { opened.loop with
      round := 0, nextRound := some Config.roundPeriod } } : State).beginExchange 0

/-- SCAN_END (R124). -/
def execScanEnd (aged : List (RecordSlot × SlotCells)) (s : State) : Outcome State Fault Refusal :=
  .next <| match s.park.startStep with
    | some .scan => s.quiet fun t => t.endScan aged
    | _ => s

end Sys2Proof.Machine
end

