-- ==== Sys2Proof/Machine/TimerCommands.lean ====
section
/-! DEFINITION. The meanings of the timer events: the three windows of a session (R12, R18, R21), the
ramp timer (R52) and the overstay minute (R105). -/

namespace Sys2Proof.Machine
open Sys2Proof Host

/-- What is left of a timer of a pedestal's session, absent while it is stopped or the slot is FREE. -/
def State.sessionTimer (s : State) (p : Pedestal) (timer : Session → Option Nat) : Option Nat :=
  match s.session p with
  | some x => timer x
  | none => none

/-- AUTHORISATION_WINDOW_EXPIRY (R12): the session is voided and the refused flag set. -/
def execAuthorisationWindowExpiry (p : Pedestal) (s : State) : Outcome State Fault Refusal :=
  .next <| s.expiry (s.sessionTimer p (·.authorisationWindow)) fun t => t.void p true

/-- R18: the expiry of the stop window: STOP_IGNORED, and PARKED by STOP. -/
def State.stopIgnored (s : State) (p : Pedestal) : State :=
  match s.session p with
  | some x => (s.putSession p { x with stopIgnored := true }).enterParked p .stop
  | none => s

/-- STOP_WINDOW_EXPIRY (R18). -/
def execStopWindowExpiry (p : Pedestal) (s : State) : Outcome State Fault Refusal :=
  .next <| s.expiry (s.sessionTimer p (·.stopWindow)) fun t => t.stopIgnored p

/-- LINK_LOSS_TIMER_EXPIRY (R21): the session closes with reason LINK_LOST and the refused flag is
set. -/
def execLinkLossTimerExpiry (p : Pedestal) (s : State) : Outcome State Fault Refusal :=
  .next <| s.expiry (s.sessionTimer p (·.linkLossTimer)) fun t => t.close p .linkLost true

/-- RAMP_TIMER_EXPIRY (R52). -/
def execRampTimerExpiry (p : Pedestal) (s : State) : Outcome State Fault Refusal :=
  .next <| s.expiry (s.entry p).rampTimer fun t =>
    t.putEntry p (AllotEntry.rampStep t.allot.parameters (t.entry p))

/-- R105: what is left until the next overstay minute of a PARKED session ends; absent when the slot
holds no PARKED session, or when the overstay time stops before it (R185). -/
def State.minuteLeft (s : State) (p : Pedestal) : Option Nat :=
  match s.session p with
  | some x =>
    let due := (x.minutesEnded + 1) * Config.overstayMinute
    if x.state = .parked && decide (due ≤ Config.overstayLimit) then some (due - x.overstayTime)
    else none
  | none => none

/-- R105: the end of an overstay minute at the slot. -/
def State.endMinute (s : State) (p : Pedestal) : State :=
  match s.session p with
  | some x => s.putSession p x.endMinute
  | none => s

/-- OVERSTAY_MINUTE_END (R105, R106). -/
def execOverstayMinuteEnd (p : Pedestal) (s : State) : Outcome State Fault Refusal :=
  .next <| s.expiry (s.minuteLeft p) fun t => t.endMinute p

end Sys2Proof.Machine
end

