-- ==== Sys2Proof/Machine/Dispatch.lean ====
section
/-! DEFINITION. One arm per row of spec/opcode_table.json, each a direct call of its meaning. -/

namespace Sys2Proof.Machine
open Sys2Proof

/-- The effect of a command on everything but the queue. -/
def exec (i : Instr) (s : State) : Host.Outcome State Fault Refusal :=
  match i with
  | .roundStart => Sys2Proof.Machine.execRoundStart s
  | .answerFrameReceived rx => Sys2Proof.Machine.execAnswerFrameReceived rx s
  | .answerWindowClose => Sys2Proof.Machine.execAnswerWindowClose s
  | .authorisationWindowExpiry p => Sys2Proof.Machine.execAuthorisationWindowExpiry p s
  | .stopWindowExpiry p => Sys2Proof.Machine.execStopWindowExpiry p s
  | .linkLossTimerExpiry p => Sys2Proof.Machine.execLinkLossTimerExpiry p s
  | .rampTimerExpiry p => Sys2Proof.Machine.execRampTimerExpiry p s
  | .overstayMinuteEnd p => Sys2Proof.Machine.execOverstayMinuteEnd p s
  | .temperatureCompletion f code => Sys2Proof.Machine.execTemperatureCompletion f code s
  | .supplyCompletion code => Sys2Proof.Machine.execSupplyCompletion code s
  | .recordWriteEnd v => Sys2Proof.Machine.execRecordWriteEnd v s
  | .settledMarkEnd v => Sys2Proof.Machine.execSettledMarkEnd v s
  | .eraseEnd v => Sys2Proof.Machine.execEraseEnd v s
  | .reservationWriteEnd v => Sys2Proof.Machine.execReservationWriteEnd v s
  | .settingsSaveEnd v => Sys2Proof.Machine.execSettingsSaveEnd v s
  | .hardwareResetAssert cut => Sys2Proof.Machine.execHardwareResetAssert cut s
  | .hardwareResetEnd => Sys2Proof.Machine.execHardwareResetEnd s
  | .restoreEnd reading => Sys2Proof.Machine.execRestoreEnd reading s
  | .scanEnd aged => Sys2Proof.Machine.execScanEnd aged s
  | .payStatus => Sys2Proof.Machine.execPayStatus s
  | .nextAuthorisation => Sys2Proof.Machine.execNextAuthorisation s
  | .authorise pedestal session hold customerRef => Sys2Proof.Machine.execAuthorise pedestal session hold customerRef s
  | .decline pedestal session => Sys2Proof.Machine.execDecline pedestal session s
  | .cancel pedestal session => Sys2Proof.Machine.execCancel pedestal session s
  | .viewSession pedestal => Sys2Proof.Machine.execViewSession pedestal s
  | .fetch => Sys2Proof.Machine.execFetch s
  | .settle session => Sys2Proof.Machine.execSettle session s
  | .payAcknowledge mask => Sys2Proof.Machine.execPayAcknowledge mask s
  | .paySetLevel cause level => Sys2Proof.Machine.execPaySetLevel cause level s
  | .payUnknownRequest frame partByte => Sys2Proof.Machine.execPayUnknownRequest frame partByte s
  | .payReadWindow clocked => Sys2Proof.Machine.execPayReadWindow clocked s
  | .siteStatus => Sys2Proof.Machine.execSiteStatus s
  | .setSiteCeiling ceiling => Sys2Proof.Machine.execSetSiteCeiling ceiling s
  | .setFeeder feeder ceiling sensor tlow thigh floor => Sys2Proof.Machine.execSetFeeder feeder ceiling sensor tlow thigh floor s
  | .setPedestal pedestal present feeder cls cap rampMode => Sys2Proof.Machine.execSetPedestal pedestal present feeder cls cap rampMode s
  | .setParameters minGrant step stepInterval slack holdReserve tracking startQuiesced => Sys2Proof.Machine.execSetParameters minGrant step stepInterval slack holdReserve tracking startQuiesced s
  | .writeTariffRow row valid rate flatFee grace perMinute cap => Sys2Proof.Machine.execWriteTariffRow row valid rate flatFee grace perMinute cap s
  | .bindTariff mask row => Sys2Proof.Machine.execBindTariff mask row s
  | .setClock seconds => Sys2Proof.Machine.execSetClock seconds s
  | .quiesce => Sys2Proof.Machine.execQuiesce s
  | .resume => Sys2Proof.Machine.execResume s
  | .readAllotment pedestal => Sys2Proof.Machine.execReadAllotment pedestal s
  | .readFeeder feeder => Sys2Proof.Machine.execReadFeeder feeder s
  | .saveSettings => Sys2Proof.Machine.execSaveSettings s
  | .siteAcknowledge mask => Sys2Proof.Machine.execSiteAcknowledge mask s
  | .siteSetLevel cause level => Sys2Proof.Machine.execSiteSetLevel cause level s
  | .siteUnknownRequest frame partByte => Sys2Proof.Machine.execSiteUnknownRequest frame partByte s
  | .siteReadTransaction clocked => Sys2Proof.Machine.execSiteReadTransaction clocked s
  | .readWindowOpens => Sys2Proof.Machine.execReadWindowOpens s

end Sys2Proof.Machine
end

