-- ==== Sys2Proof/Machine/Ticks.lean ====
section
/-! DEFINITION. What happens when no command is waiting (notes/assumptions/2.md): the Time Base counts
one millisecond (R179), and the events that are due by the machine's own timers are put into the
queue. Ends of store operations, conversions and the steps of start-up carry what only the outside
knows, so they are never raised here. -/

namespace Sys2Proof.Machine
open Sys2Proof

/-- A timer that has nothing left to run. -/
def isDue (t : Option Nat) : Bool := decide (t = some 0)

/-- The event, if its timer is due. -/
def dueEvent (t : Option Nat) (i : Instr) : List Instr := if isDue t then [i] else []

/-- The events of one pedestal that are due. -/
def State.dueAt (s : State) (p : Pedestal) : List Instr :=
  dueEvent (s.sessionTimer p (·.authorisationWindow)) (.authorisationWindowExpiry p)
    ++ dueEvent (s.sessionTimer p (·.stopWindow)) (.stopWindowExpiry p)
    ++ dueEvent (s.sessionTimer p (·.linkLossTimer)) (.linkLossTimerExpiry p)
    ++ dueEvent (s.entry p).rampTimer (.rampTimerExpiry p)
    ++ dueEvent (s.minuteLeft p) (.overstayMinuteEnd p)

/-- Every event that is due: the answer window, the round, and the pedestals' timers. -/
def State.dueEvents (s : State) : List Instr :=
  dueEvent (s.loop.exchange.map (·.left)) .answerWindowClose
    ++ dueEvent s.loop.nextRound .roundStart
    ++ pedestals.flatMap s.dueAt

/-- One millisecond passes while no command is waiting; none is counted while RESET_N is low (R179). -/
def State.tick (s : State) : State :=
  if s.resetAsserted then s
  else { s.advance 1 with pending := s.pending ++ (s.advance 1).dueEvents }

end Sys2Proof.Machine
end

