-- ==== Sys2Proof/Safety.lean ====
section
/-! DEFINITION. What a safe LS416 is, in the terms that claims use: when a port serves a request and
what its reply leaves, and the laws that the manual says hold at every moment (R39, R55, R56, R61,
R88, R94, R102, R106, R114, R115, R140, R157, R158, R174, R176). -/

namespace Sys2Proof.Machine
open Sys2Proof

/-! ### Serving a request -/

/-- R151, R164: IDLE and REPLY_READY take a request. -/
def PortState.takes : PortState → Bool
  | .working _ => false
  | _ => true

/-- R152, R165, R176: the park states in which requests other than STATUS are taken. -/
def ParkState.serves : ParkState → Bool
  | .open | .draining | .quiesced => true
  | _ => false

/-- No reset is asserted and the Payment Port takes a request. -/
def State.payTakes (s : State) : Bool := !s.resetAsserted && s.pay.state.takes

/-- No reset is asserted and the Site Port takes a request. -/
def State.siteTakes (s : State) : Bool := !s.resetAsserted && s.site.state.takes

/-- The Payment Port takes a request and passes it on to its rule. -/
def State.payServes (s : State) : Bool := s.payTakes && ParkState.serves s.park.state

/-- The Site Port takes a request and passes it on to its rule. -/
def State.siteServes (s : State) : Bool := s.siteTakes && ParkState.serves s.park.state

/-- R151, R152: the Payment Port holds the reply to a request; PREVIOUS_UNREAD says that a reply was
waiting, REQUEST_DROPPED that the dropped flag was set. -/
def State.payReplied (s : State) (kind : Byte) (o : OutcomeCode) (body : List Byte) : State :=
  { s with pay := { s.pay with
      window := none
      dropped := false
      state := .replyReady (replyFrame kind s.pay.state.ready s.pay.dropped s.park.state
        { outcome := o, body := body }) } }

/-- R151: the Payment Port works on a request whose reply is deferred. -/
def State.payWorking (s : State) : State :=
  { s with pay := { s.pay with window := none, state := .working s.pay.state.ready } }

/-- R164, R165: the Site Port holds the reply to a request. -/
def State.siteReplied (s : State) (kind : Byte) (o : OutcomeCode) (body : List Byte) : State :=
  { s with site := { s.site with
      dropped := false
      state := .replyReady (replyFrame kind s.site.state.ready s.site.dropped s.park.state
        { outcome := o, body := body }) } }

/-- R164: the Site Port works on a request whose reply is deferred. -/
def State.siteWorking (s : State) : State :=
  { s with site := { s.site with state := .working s.site.state.ready } }

/-! ### The laws of the allotment -/

/-- R39, the law of order, at one entry. -/
def AllotEntry.inOrder (e : AllotEntry) : Prop :=
  e.grant ≤ e.target ∧ e.target ≤ e.demand ∧ e.demand ≤ e.cfg.cap

/-- R39: the law of order. -/
def OrderLaw (s : State) : Prop := ∀ p, (s.entry p).inOrder

/-- R55, the fourth law; R56, the peak covers the grant; R52, a running ramp timer has a grant below
its target; at one entry. -/
def AllotEntry.grantSound (minGrant : Nat) (e : AllotEntry) : Prop :=
  (e.admitted = true → min e.demand minGrant ≤ e.grant) ∧ e.grant ≤ e.target ∧ e.grant ≤ e.peak
    ∧ (e.rampTimer.isSome = true → e.grant < e.target)

/-- R52, R55, R56: the laws of the grant. -/
def GrantLaw (s : State) : Prop := ∀ p, (s.entry p).grantSound s.allot.parameters.minGrant

/-- R39: the law of counting. -/
def CountingLaw (s : State) : Prop :=
  ∀ p, s.countsForPower p = false ∨ (s.loopEntry p).link = .lost →
    (s.entry p).target = 0 ∧ (s.entry p).grant = 0

/-- R58, R59, R61, R63: tracking is on only in the tracking mode and at a pedestal whose session is in
DELIVERING, with the run count 0; a run of three turns it on, so a run count is at most 2. R12, R17: a
running authorisation window is that of a session in AUTHORISING and a running stop window that of one in
STOPPING, so their expiries end no tracked session. -/
def TrackingLaw (s : State) : Prop :=
  (∀ p, (s.entry p).runCount < 3 ∧ ((s.entry p).tracking.isSome = true →
    s.delivering p = true ∧ (s.entry p).runCount = 0 ∧ s.allot.parameters.trackingOn = true))
    ∧ ∀ p x, s.session p = some x →
      (x.authorisationWindow.isSome = true → x.state = .authorising)
      ∧ (x.stopWindow.isSome = true → x.state = .stopping)

/-- The sum of the targets of the pedestals assigned to a feeder. -/
def State.feederTargets (s : State) (f : Feeder) : Nat :=
  (pedestals.map fun p => if (s.entry p).cfg.feeder = f then (s.entry p).target else 0).sum

/-- The sum of all targets. -/
def State.siteTargets (s : State) : Nat := (pedestals.map fun p => (s.entry p).target).sum

/-- The sum of all grants. -/
def State.siteGrants (s : State) : Nat := (pedestals.map fun p => (s.entry p).grant).sum

/-- R39: the law of ceilings, for the targets that the grants stay below. -/
def CeilingLaw (s : State) : Prop :=
  (∀ f, s.feederTargets f ≤ (s.feeder f).effective) ∧ s.siteTargets ≤ s.allot.siteCeiling
    ∧ ∀ p, (s.entry p).grant ≤ (s.entry p).target

/-! ### Stage 5, as its rule words it -/

/-- R36: what stage 5 works on: the site remainder, the feeder remainders and the shares. -/
structure Headroom where
  site   : Nat
  feeder : Feeder → Nat
  share  : Pedestal → Nat

/-- R37, step 4: an increment of a pedestal of feeder `f`, taken from both remainders. -/
def Headroom.give (x : Headroom) (p : Pedestal) (f : Feeder) (inc : Nat) : Headroom :=
  { site := x.site - inc
    feeder := fun k => if k = f then x.feeder k - inc else x.feeder k
    share := fun q => if q = p then x.share q + inc else x.share q }

/-- R37, step 1: the set U of a class, in list order. -/
def Headroom.takers (demand : Pedestal → Nat) (home : Pedestal → Feeder) (x : Headroom)
    (members : List Pedestal) : List Pedestal :=
  members.filter fun p => decide (x.share p < demand p) && decide (0 < x.feeder (home p))

/-- R37, step 4: the pedestals of U take their increments in list order; once the site remainder is 0
the rest gain nothing. -/
inductive TakenInTurn (demand : Pedestal → Nat) (home : Pedestal → Feeder) (portion : Nat) :
    List Pedestal → Headroom → Headroom → Prop
  | nobody (x : Headroom) : TakenInTurn demand home portion [] x x
  | next (p : Pedestal) (rest : List Pedestal) (x y : Headroom) :
      TakenInTurn demand home portion rest
        (x.give p (home p) (if x.site = 0 then 0
          else min (demand p - x.share p) (min portion (x.feeder (home p))))) y →
      TakenInTurn demand home portion (p :: rest) x y

/-- R37: the rounds of one class, from the headroom before them to the headroom after: the class ends
when U is empty or the site remainder is 0, and until then each round shares floor(R / |U|), or 1. -/
inductive ClassServed (demand : Pedestal → Nat) (home : Pedestal → Feeder) (members : List Pedestal) :
    Headroom → Headroom → Prop
  | ends (x : Headroom) : x.takers demand home members = [] ∨ x.site = 0 →
      ClassServed demand home members x x
  | round (x y z : Headroom) : x.takers demand home members ≠ [] → x.site ≠ 0 →
      TakenInTurn demand home (max 1 (x.site / (x.takers demand home members).length))
        (x.takers demand home members) x y →
      ClassServed demand home members y z → ClassServed demand home members x z

/-! ### The laws of the accounts -/

/-- R80, R88: a session's readings: nothing is billed before authorisation, and from then on billed
and unbilled energy are congruent to the last reading less meter start. -/
def Session.metered (x : Session) : Prop :=
  (x.state = .authorising → x.meterStart = none ∧ x.billed = 0 ∧ x.unbilled = 0) ∧
    ∀ m, x.meterStart = some m →
      (m + x.billed + x.unbilled) % Config.meterModulus = x.lastReading % Config.meterModulus

/-- R88: every session's metering is sound. -/
def MeterLaw (s : State) : Prop := ∀ p x, s.session p = some x → x.metered

/-- R88, R94, R100, R102, R106: a session's money: at most eight segments, each raw accrual its billed
energy at its rate, the billed energies summing to the session's, the flat fee that of the first
segment from the first billing on, and the overstay fee within the largest cap. -/
def Session.priced (x : Session) : Prop :=
  x.segments.length ≤ Config.segmentLimit ∧ (∀ g ∈ x.segments, g.raw = g.billed * g.snapshot.rate)
    ∧ (x.segments.map (·.billed)).sum = x.billed
    ∧ x.flatFee = (if x.billed = 0 then 0 else x.firstSegment.snapshot.flatFee)
    ∧ x.overstayFee ≤ x.largestCap
    ∧ (x.state = .authorising → x.billed = 0 ∧ x.overstayFee = 0)

/-- Every session's money is sound. -/
def MoneyLaw (s : State) : Prop := ∀ p x, s.session p = some x → x.priced

/-- R9, R176: the count of open sessions is the number of slots with a session, and the authorisation
queue holds each AUTHORISING session once and no other; such a session runs no other window. -/
def TableLaw (s : State) : Prop :=
  s.park.openCount = s.occupied ∧ s.account.authQueue.Nodup
    ∧ (∀ p, p ∈ s.account.authQueue ↔ ∃ x, s.session p = some x ∧ x.state = .authorising)
    ∧ ∀ p x, s.session p = some x → x.state = .authorising →
        x.stopWindow = none ∧ x.linkLossTimer = none

/-! ### The laws of the store -/

/-- R22, R114: the settlement queue is in ascending close sequence, all below the counter. -/
def QueueLaw (s : State) : Prop :=
  s.store.queue.Pairwise (fun x y => x.closeSequence ≤ y.closeSequence)
    ∧ ∀ e ∈ s.store.queue, e.closeSequence < s.account.nextClose

/-- R127: the limits of the reservation writes that wait or are in flight. -/
def Store.reservations (st : Store) : List Nat :=
  (st.firstClass.filterMap fun w => match w with | .reservation l => some l | _ => none)
    ++ match st.flight with
      | some { op := .reservation l, .. } => [l]
      | _ => []

/-- R5, R9, R114, R126, R127: the numbers of open sessions are distinct and below the counter, which is
at most the reservation limit; the authorisation queue is in ascending number; queued records carry
distinct numbers below the counter, none of an open session. At most one reservation write waits or is
in flight, and it does not lower the limit. While the start-up sequence runs nothing is open, queued,
reserved or polled. -/
def NumberLaw (s : State) : Prop :=
  (∀ p x, s.session p = some x → x.number < s.account.nextNumber)
    ∧ (∀ p q x y, s.session p = some x → s.session q = some y → x.number = y.number → p = q)
    ∧ s.account.nextNumber ≤ s.account.reservationLimit
    ∧ s.account.reservationLimit ≤ Config.lastReservation
    ∧ s.account.authQueue.Pairwise (fun p q => s.sessionNumber p < s.sessionNumber q)
    ∧ s.store.queue.Pairwise (fun e f => e.session ≠ f.session)
    ∧ (∀ e ∈ s.store.queue, e.session < s.account.nextNumber
        ∧ ∀ p x, s.session p = some x → x.number ≠ e.session)
    ∧ s.store.reservations.length ≤ 1
    ∧ (∀ l ∈ s.store.reservations,
        s.account.reservationLimit ≤ l ∧ l ≤ Config.lastReservation)
    ∧ (s.park.startStep.isSome = true → s.park.state = .starting ∧ s.occupied = 0
        ∧ s.store.queue = [] ∧ s.store.reservations = []
        ∧ s.loop.exchange = none ∧ s.loop.nextRound = none)

/-- R115: open sessions and queued records together are at most 48; no session is open in STARTING. -/
def RoomLaw (s : State) : Prop :=
  (s.park.startStep.isSome = true → s.park.state = .starting)
    ∧ (s.park.state = .starting → s.occupied = 0)
    ∧ s.occupied + s.store.queue.length ≤ 48

/-! ### The laws of the loop and of the pins -/

/-- R140 to R142, Table 8.4: the link state and the two counters of a loop entry. -/
def LoopEntry.linkSound (e : LoopEntry) : Prop :=
  match e.link with
  | .good => e.health < 64 ∧ e.recovery = 0
  | .doubtful => 64 ≤ e.health ∧ e.health < 128 ∧ e.recovery = 0
  | .lost => 128 ≤ e.health ∧ e.health ≤ 255 ∧ e.recovery < 8

/-- Every link's state agrees with its counters. -/
def LinkLaw (s : State) : Prop := ∀ p, (s.loopEntry p).linkSound

/-- R157, R174: the condition causes stand at their conditions. -/
def State.conditionsHold (s : State) : Prop :=
  (cell s.pay.notices 0).pending = !s.account.authQueue.isEmpty
    ∧ (cell s.pay.notices 1).pending = s.store.headReady
    ∧ (cell s.pay.notices 3).pending = s.store.backlog
    ∧ (cell s.site.notices 2).pending = s.allot.sensorFault

/-- R133, R150, R158, R174, R184: with RESET_N high the conditions hold and the pins follow the port and
the notices; with RESET_N low every pin is inactive, PAY_DO carries nothing and no address is
acknowledged; LOOP_DE is low between events (notes/assumptions/9.md). -/
def PinLaw (s : State) : Prop :=
  s.loop.driverEnable = false ∧
    if s.resetAsserted then s.pay.rdy = false ∧ s.pay.atn = false ∧ s.site.atn = false
      ∧ s.pay.payDo = [] ∧ s.site.siteRead = none
    else s.conditionsHold ∧ s.pay.rdy = s.pay.state.ready ∧ s.pay.atn = attention s.pay.notices
      ∧ s.site.atn = attention s.site.notices

end Sys2Proof.Machine
end

