-- ==== Sys2Proof/WellFormed.lean ====
section
/-! DEFINITION. Which commands the outside can really send. Most operands are fields of a frame or
names of a fixed set, and any value of theirs is a command; the checks here are of the rows whose
summary says more: a complete answer frame, a frame that is no known request, distinct slots. -/

namespace Sys2Proof
open Machine

/-- The frame reading names no request of the port. -/
def notRequest {α : Type} : FrameReading α → Bool
  | .request _ => false
  | _ => true

/-- R152: a request window whose frame fails the frame check or names no payment kind. -/
def unknownPayFrame (frame : List Byte) (partByte : Bool) : Bool :=
  !frame.isEmpty && frame.head? != some readCode && notRequest (readPayFrame frame partByte)

/-- R165: a write transaction whose frame fails the frame check or names no site kind. -/
def unknownSiteFrame (frame : List Byte) (partByte : Bool) : Bool :=
  !frame.isEmpty && notRequest (readSiteFrame frame partByte)

/-- A command that its row of the table describes. -/
def Instr.wellFormed : Instr → Bool
  | .roundStart => true
  | .answerFrameReceived rx => (answerFrame rx).isSome
  | .answerWindowClose => true
  | .authorisationWindowExpiry _ => true
  | .stopWindowExpiry _ => true
  | .linkLossTimerExpiry _ => true
  | .rampTimerExpiry _ => true
  | .overstayMinuteEnd _ => true
  | .temperatureCompletion _ _ => true
  | .supplyCompletion _ => true
  | .recordWriteEnd _ => true
  | .settledMarkEnd _ => true
  | .eraseEnd _ => true
  | .reservationWriteEnd _ => true
  | .settingsSaveEnd _ => true
  | .hardwareResetAssert _ => true
  | .hardwareResetEnd => true
  | .restoreEnd _ => true
  | .scanEnd aged => decide (aged.map (·.1)).Nodup
  | .payStatus => true
  | .nextAuthorisation => true
  | .authorise _ _ _ _ => true
  | .decline _ _ => true
  | .cancel _ _ => true
  | .viewSession _ => true
  | .fetch => true
  | .settle _ => true
  | .payAcknowledge _ => true
  | .paySetLevel _ _ => true
  | .payUnknownRequest frame partByte => unknownPayFrame frame partByte
  | .payReadWindow _ => true
  | .siteStatus => true
  | .setSiteCeiling _ => true
  | .setFeeder _ _ _ _ _ _ => true
  | .setPedestal _ _ _ _ _ _ => true
  | .setParameters _ _ _ _ _ _ _ => true
  | .writeTariffRow _ _ _ _ _ _ _ => true
  | .bindTariff _ _ => true
  | .setClock _ => true
  | .quiesce => true
  | .resume => true
  | .readAllotment _ => true
  | .readFeeder _ => true
  | .saveSettings => true
  | .siteAcknowledge _ => true
  | .siteSetLevel _ _ => true
  | .siteUnknownRequest frame partByte => unknownSiteFrame frame partByte
  | .siteReadTransaction _ => true
  | .readWindowOpens => true

end Sys2Proof
end

