-- ==== Sys2Proof/Certificates/Slice0/Obligations.lean ====
section
/-! DEFINITION. The statements about the LS416 that the provers settle. Each speaks of `step`, of
`exec`, or of a named operation over all states; a record update on the right of an equation is
also the frame: every field it does not name is unchanged. `State.finish` (the end of an event) and
`State.advance` (milliseconds pass) have statements of their own. -/

open Sys2Proof Sys2Proof.Machine

/-! ### The step and the state after reset -/

/-- A step takes the command at the front of the queue and is its effect on the state with the rest
of the queue (00_scope.md section 3.3). -/
def Obligations.StepRunsFrontCommand : Prop :=
  ∀ (c : Instr) (rest : List Instr) (s : State),
    step { s with pending := c :: rest } = exec c { s with pending := rest }

/-- R12, R17, R19, R21, R51, R179, R185: what `n` passing milliseconds do: the Time Base counts them, the
counter and the clock wrap and the phase carries into the seconds; every session window, ramp timer, the
round period, the exchange and the store operation in flight have `n` less left, down to 0; the overstay
time of a PARKED session grows, up to its limit; nothing else changes. The model's choice
(notes/assumptions/2.md): with no command waiting a step lets one millisecond pass, unless RESET_N is low,
and the events of the block's own timers that are then due join the queue, each once. -/
def Obligations.IdleStepCountsAMillisecond : Prop :=
  (∀ (s : State) (n : Nat),
    let t := State.advance n s
    let left (timer : Option Nat) : Option Nat := timer.map fun k => k - n
    t.time =
        { ms := s.time.ms + BitVec.ofNat 32 n
          clock := s.time.clock + BitVec.ofNat 32 ((s.time.phase + n) / 1000)
          phase := (s.time.phase + n) % 1000, clockSet := s.time.clockSet }
    ∧ (∀ p, t.slot p = { s.slot p with session := (s.session p).map fun x =>
        { x with
          authorisationWindow := left x.authorisationWindow
          stopWindow := left x.stopWindow
          linkLossTimer := left x.linkLossTimer
          overstayTime :=
            if x.state = .parked then min (x.overstayTime + n) 4294967295 else x.overstayTime } })
    ∧ (∀ p, t.entry p = { s.entry p with rampTimer := left (s.entry p).rampTimer })
    ∧ t = { s with
        time := t.time
        account := { s.account with slots := t.account.slots }
        allot := { s.allot with entries := t.allot.entries }
        loop := { s.loop with
          nextRound := left s.loop.nextRound
          exchange := s.loop.exchange.map fun x => { x with left := x.left - n } }
        store := { s.store with
          flight := s.store.flight.map fun f => { f with left := f.left - n } } })
  ∧ ∀ s : State, s.pending = [] →
    (s.resetAsserted = true → step s = .next s)
    ∧ (s.resetAsserted = false → ∃ due : List Instr,
      step s = .next { State.advance 1 s with pending := due }
      ∧ due.Nodup
      ∧ ∀ c, c ∈ due ↔
        (c = .answerWindowClose ∧ ∃ x, s.loop.exchange = some x ∧ x.left ≤ 1)
        ∨ (c = .roundStart ∧ ∃ k, s.loop.nextRound = some k ∧ k ≤ 1)
        ∨ ∃ p : Pedestal,
          (∃ x k, s.session p = some x ∧ k ≤ 1
            ∧ (c = .authorisationWindowExpiry p ∧ x.authorisationWindow = some k
              ∨ c = .stopWindowExpiry p ∧ x.stopWindow = some k
              ∨ c = .linkLossTimerExpiry p ∧ x.linkLossTimer = some k))
          ∨ (c = .rampTimerExpiry p ∧ ∃ k, (s.entry p).rampTimer = some k ∧ k ≤ 1)
          ∨ (c = .overstayMinuteEnd p ∧ ∃ x, s.session p = some x ∧ x.state = .parked
            ∧ (x.minutesEnded + 1) * 60000 ≤ min (x.overstayTime + 1) 4294967295))

/-- What the end of a reset leaves, whatever the array, the strap and the waiting commands (R1, R47,
R66, R131, R150, R157, R161, R164, R174, R176, R177, R179, R183). -/
def Obligations.ResetLeavesResetValues : Prop :=
  ∀ (a : NvArray) (addr : Bool) (q : List Instr),
    let t := State.afterReset a addr q
    (∀ p, t.slot p = { session := none, refused := false, unavailable := false, lastEnded := 0 })
    ∧ t.account.authQueue = []
    ∧ (∀ p, (t.entry p).demand = 0 ∧ (t.entry p).admitted = false ∧ (t.entry p).target = 0
        ∧ (t.entry p).grant = 0 ∧ (t.entry p).peak = 0 ∧ (t.entry p).rampTimer = none
        ∧ (t.entry p).tracking = none ∧ (t.entry p).runCount = 0)
    ∧ (∀ f, (t.feeder f).effective = 0 ∧ (t.feeder f).latestTemp = none
        ∧ (t.feeder f).computed = none ∧ (t.feeder f).applied = 1000
        ∧ (t.feeder f).sensorFault = false ∧ (t.feeder f).firstMark = true)
    ∧ (∀ p, t.loopEntry p =
        { health := 0, link := .good, recovery := 0, latest := none, latestStamp := none })
    ∧ t.loop.round = 0 ∧ t.loop.exchange = none ∧ t.loop.nextRound = none
    ∧ t.loop.driverEnable = false
    ∧ t.meas.scanSlot = 0 ∧ (∀ f, cell t.meas.latest (Feeder.idx f) = none)
    ∧ t.meas.belowRun = 0 ∧ t.meas.aboveRun = 0
    ∧ t.store.array = a ∧ t.store.firstClass = [] ∧ t.store.secondClass = []
    ∧ t.store.flight = none ∧ t.store.queue = [] ∧ t.store.corrected = 0
    ∧ t.pay.state = .idle ∧ t.pay.dropped = false ∧ t.pay.window = none ∧ t.pay.rdy = false
    ∧ t.pay.atn = false ∧ (∀ c, cell t.pay.notices c = { pending := false, level := 4 })
    ∧ t.site.state = .idle ∧ t.site.dropped = false ∧ t.site.atn = false
    ∧ (∀ c, cell t.site.notices c = { pending := false, level := 4 })
    ∧ t.site.address = (if addr then 0x2D else 0x2C)
    ∧ t.park.state = .starting ∧ t.park.openCount = 0 ∧ t.park.startStep = some .restore
    ∧ t.time = { ms := 0, clock := 0, phase := 0, clockSet := false }
    ∧ t.resetAsserted = false ∧ t.addrPin = addr ∧ t.pending = q

/-- The end of an event (R112, R115, R150, R157, R158, R174): every block but the Store Controller and
the two ports is unchanged; the Store Controller takes at most one item, the head of the first class, or
with that empty the head of the second, and starts it: the other list, the array, the queue and every slot
state but that of an erase's own slot stay as they were, and it takes none in STARTING or while an
operation is in flight; the levels and the event causes are unchanged, the condition causes stand at their
conditions, and the pins follow. -/
def Obligations.EventEndSettlesOutputs : Prop :=
  ∀ s : State,
    let t := s.finish
    t.time = s.time ∧ t.park = s.park ∧ t.account = s.account ∧ t.allot = s.allot
    ∧ t.loop = s.loop ∧ t.meas = s.meas ∧ t.resetAsserted = s.resetAsserted
    ∧ t.addrPin = s.addrPin ∧ t.pending = s.pending
    ∧ t.store.array = s.store.array ∧ t.store.queue = s.store.queue
    ∧ t.store.corrected = s.store.corrected
    ∧ (s.park.state = .starting ∨ s.store.flight.isSome = true → t.store = s.store)
    ∧ (s.store.firstClass = [] → s.store.secondClass = [] → t.store = s.store)
    ∧ (t.store = s.store ∨ s.park.state ≠ .starting ∧ s.store.flight = none
      ∧ ∃ (item : WorkItem) (first second : List WorkItem),
        (s.store.firstClass = item :: first ∧ s.store.secondClass = second
          ∨ s.store.firstClass = [] ∧ first = [] ∧ s.store.secondClass = item :: second)
        ∧ t.store = { s.store with
            firstClass := first, secondClass := second, flight := t.store.flight
            slotStates := match item with
              | .erase i => putCell s.store.slotStates i .erasing
              | _ => s.store.slotStates })
    ∧ t.pay.state = s.pay.state ∧ t.pay.dropped = s.pay.dropped ∧ t.pay.window = s.pay.window
    ∧ t.pay.payDo = s.pay.payDo ∧ t.site.state = s.site.state ∧ t.site.dropped = s.site.dropped
    ∧ t.site.address = s.site.address ∧ t.site.siteRead = s.site.siteRead
    ∧ (∀ c, (cell t.pay.notices c).level = (cell s.pay.notices c).level
        ∧ (payCondition c = false →
            (cell t.pay.notices c).pending = (cell s.pay.notices c).pending))
    ∧ (∀ c, (cell t.site.notices c).level = (cell s.site.notices c).level
        ∧ (siteCondition c = false →
            (cell t.site.notices c).pending = (cell s.site.notices c).pending))
    ∧ t.conditionsHold ∧ t.pay.rdy = t.pay.state.ready ∧ t.pay.atn = attention t.pay.notices
    ∧ t.site.atn = attention t.site.notices

/-- R112: an idle Store Controller that may work starts the first item of the first class, and only
with the first class empty the first of the second; the started item leaves its list, its operation runs
for the time of Table 7.2, and the slot of an erase becomes ERASING; nothing else of the Store Controller
changes. -/
def Obligations.IdleStoreStartsFirstItem : Prop :=
  ∀ (s : State), s.park.state ≠ .starting → s.store.flight = none →
    (∀ n rest e i, s.store.firstClass = .recordWrite n :: rest → s.queued n = some e →
      e.slot = some i → s.finish.store = { s.store with
        firstClass := rest
        flight := some { op := .recordWrite n i e.eraseFirst false,
                         left := if e.eraseFirst then 10 else 6 } })
    ∧ (∀ n rest e i, s.store.firstClass = .settledMark n :: rest → s.queued n = some e →
      e.slot = some i → s.finish.store = { s.store with
        firstClass := rest, flight := some { op := .settledMark n i, left := 1 } })
    ∧ (∀ l rest, s.store.firstClass = .reservation l :: rest → s.finish.store = { s.store with
        firstClass := rest, flight := some { op := .reservation l, left := 1 } })
    ∧ (∀ i rest, s.store.firstClass = [] → s.store.secondClass = .erase i :: rest →
      s.finish.store = { s.store with
        secondClass := rest, flight := some { op := .erase i, left := 4 }
        slotStates := putCell s.store.slotStates i .erasing })
    ∧ (∀ c rest, s.store.firstClass = [] → s.store.secondClass = .save c :: rest →
      s.finish.store = { s.store with
        secondClass := rest, flight := some { op := .save c, left := 40 } })

/-! ### Laws that every step keeps -/

/-- R39, the law of order: grant ≤ target ≤ effective demand ≤ cap. -/
def Obligations.StepKeepsOrderLaw : Prop :=
  ∀ s t : State, OrderLaw s → step s = .next t → OrderLaw t

/-- R52, R55, R56: an admitted pedestal holds at least the smaller of its demand and the minimum
grant, the peak grant covers the grant, and a running ramp timer has its grant below its target. -/
def Obligations.StepKeepsGrantLaw : Prop :=
  ∀ s t : State, GrantLaw s → step s = .next t → GrantLaw t

/-- R39, the law of counting: a pedestal whose session is not in READY or DELIVERING, or whose link is
LOST, has target 0 and grant 0. R58, R59, R61, R63: draw tracking is on only in the tracking mode and at a
pedestal whose session is in DELIVERING, with the run count 0, and a run count is at most 2. R12, R17: a
running authorisation window is that of an AUTHORISING session, a running stop window that of a STOPPING
one. (The second part takes from StepKeepsRoomLaw that no session is open while the start-up sequence runs, whose restore
loads the mode.) -/
def Obligations.StepKeepsCountingLaw : Prop :=
  (∀ s t : State, CountingLaw s → step s = .next t → CountingLaw t)
  ∧ ∀ s t : State, RoomLaw s → TrackingLaw s → step s = .next t → TrackingLaw t

/-- R39, the law of ceilings: the grants of a feeder stay within its effective ceiling and all grants
within the site ceiling, because the targets do and no grant is above its target. -/
def Obligations.StepKeepsCeilingLaw : Prop :=
  ∀ s t : State, CeilingLaw s → step s = .next t →
    CeilingLaw t ∧ (∀ f, t.feederGrants f ≤ (t.feeder f).effective)
      ∧ t.siteGrants ≤ t.allot.siteCeiling

/-- R80, R88: from authorisation on, billed plus unbilled energy is congruent to the last reading less
meter start, modulo 10^9. -/
def Obligations.StepKeepsMeterLaw : Prop :=
  ∀ s t : State, MeterLaw s → step s = .next t → MeterLaw t

/-- R88, R94, R100, R102, R106: the segments carry the session's billed energy at their rates, the flat
fee counts from the first billing on, and the overstay fee stays within the largest cap. -/
def Obligations.StepKeepsMoneyLaw : Prop :=
  ∀ s t : State, MoneyLaw s → step s = .next t → MoneyLaw t

/-- R9, R176: the count of open sessions and the authorisation queue follow the session table. -/
def Obligations.StepKeepsTableLaw : Prop :=
  ∀ s t : State, TableLaw s → step s = .next t → TableLaw t

/-- R22, R114: the settlement queue stays in ascending close sequence, below the counter. R5, R9, R114,
R126, R127: the laws of the session numbers hold from one step to the next. (While the start-up sequence
runs, the second part takes from the medium what R126 says of it: the counter cell's limit is a
reservation limit and lies above the numbers of the records that the scan rebuilds.) -/
def Obligations.StepKeepsQueueLaw : Prop :=
  (∀ s t : State, QueueLaw s → step s = .next t → QueueLaw t)
  ∧ ∀ s t : State, TableLaw s → NumberLaw s →
    (s.park.startStep.isSome = true → t.account.reservationLimit ≤ 4294967296
      ∧ ∀ e ∈ t.store.queue, e.session < t.account.nextNumber) →
    step s = .next t → NumberLaw t

/-- R115: open sessions and queued records together never exceed 48. -/
def Obligations.StepKeepsRoomLaw : Prop :=
  ∀ s t : State, RoomLaw s → step s = .next t → RoomLaw t

/-- R140 to R142: a link's state agrees with its health counter and its recovery run. -/
def Obligations.StepKeepsLinkLaw : Prop :=
  ∀ s t : State, LinkLaw s → step s = .next t → LinkLaw t

/-- R150, R157, R158, R174, R184: the condition causes stand at their conditions and PAY_RDY, PAY_ATN and
SITE_ATN follow, or while RESET_N is low are inactive, with nothing sent on PAY_DO and no address
acknowledged. That LOOP_DE is low between events is the model's reading (notes/assumptions/9.md): R133
has it high while a poll is sent, which is within an event. -/
def Obligations.StepKeepsPinLaw : Prop :=
  ∀ s t : State, PinLaw s → step s = .next t → PinLaw t

/-- Every law above holds at reset. -/
def Obligations.LawsHoldAtReset : Prop :=
  OrderLaw State.reset ∧ GrantLaw State.reset ∧ CountingLaw State.reset ∧ TrackingLaw State.reset
    ∧ CeilingLaw State.reset
    ∧ MeterLaw State.reset ∧ MoneyLaw State.reset ∧ TableLaw State.reset ∧ QueueLaw State.reset
    ∧ NumberLaw State.reset ∧ RoomLaw State.reset ∧ LinkLaw State.reset ∧ PinLaw State.reset

/-! ### Frames on the wire -/

/-- 00_scope.md section 4, R136 and R188: multi-byte fields are sent most significant byte first. A
closed frame is its start byte, its fields and the check value over the fields, which starts at FFFFH and
takes each byte in most significant bit first, with the polynomial 1021H; over 31H to 39H it is 29B1H. A
closed frame passes its check, and the same bytes with any other check value fail it. -/
def Obligations.NumbersAndCheckValues : Prop :=
  (∀ width v : Nat, (bytesOf width v).length = width ∧ numberOf (bytesOf width v) = v % 256 ^ width
    ∧ (0 < width → bytesOf width v = BitVec.ofNat 8 (v / 256 ^ (width - 1)) ::
        bytesOf (width - 1) v))
  ∧ crc16 [] = 0xFFFF
  ∧ (∀ (fields : List Byte) (b : Byte), crc16 (fields ++ [b]) =
      [7, 6, 5, 4, 3, 2, 1, 0].foldl (fun (c : BitVec 16) (bit : Nat) =>
        if c.getLsbD 15 = b.getLsbD bit then c <<< 1 else (c <<< 1) ^^^ 0x1021) (crc16 fields))
  ∧ crc16 [0x31, 0x32, 0x33, 0x34, 0x35, 0x36, 0x37, 0x38, 0x39] = 0x29B1
  ∧ ∀ (start : Byte) (fields : List Byte) (c : BitVec 16),
    closeFrame start fields = start :: fields ++ bytesOf 2 (crc16 fields).toNat
    ∧ checkHolds ((closeFrame start fields).drop 1) = true
    ∧ (checkHolds (fields ++ bytesOf 2 c.toNat) = true ↔ c = crc16 fields)

/-- R189, Table 12.5: the frame of each payment request, with its kind and its arguments in the order and
at the widths of the table; the Payment Port reads every request, with any arguments, back from its frame;
cut part-way through its last byte, the frame is BAD_FRAME. -/
def Obligations.PayRequestsReadBack : Prop :=
  ∀ r : PayRequest, r.frame = closeFrame 0x3C (match r with
      | .status => [0x01]
      | .nextAuthorisation => [0x02]
      | .authorise pedestal session hold customer => [0x03, pedestal] ++ bytesOf 4 session.toNat
        ++ bytesOf 4 hold.toNat ++ bytesOf 4 customer.toNat
      | .decline pedestal session => [0x04, pedestal] ++ bytesOf 4 session.toNat
      | .cancel pedestal session => [0x05, pedestal] ++ bytesOf 4 session.toNat
      | .viewSession pedestal => [0x06, pedestal]
      | .fetch => [0x07]
      | .settle session => [0x08] ++ bytesOf 4 session.toNat
      | .acknowledge mask => [0x09, mask]
      | .setLevel cause level => [0x0A, cause, level])
    ∧ readPayFrame r.frame false = .request r
    ∧ readPayFrame r.frame true = .badFrame r.kind

/-- R189, Table 12.5: the frame of each site request, with its kind and its arguments in the order and at
the widths of the table; the Site Port reads every request, with any arguments, back from its frame; cut
part-way through its last byte, the frame is BAD_FRAME. -/
def Obligations.SiteRequestsReadBack : Prop :=
  ∀ r : SiteRequest, r.frame = closeFrame 0x3C (match r with
      | .status => [0x21]
      | .setSiteCeiling ceiling => [0x22] ++ bytesOf 2 ceiling.toNat
      | .setFeeder feeder ceiling sensor tlow thigh floor => [0x23, feeder]
        ++ bytesOf 2 ceiling.toNat ++ [sensor] ++ bytesOf 2 tlow.toNat ++ bytesOf 2 thigh.toNat
        ++ bytesOf 2 floor.toNat
      | .setPedestal pedestal present feeder cls cap mode => [0x24, pedestal, present, feeder, cls]
        ++ bytesOf 2 cap.toNat ++ [mode]
      | .setParameters minGrant size interval slack reserve tracking quiesced => [0x25]
        ++ bytesOf 2 minGrant.toNat ++ bytesOf 2 size.toNat ++ [interval] ++ bytesOf 2 slack.toNat
        ++ bytesOf 2 reserve.toNat ++ [tracking, quiesced]
      | .writeTariffRow row valid rate flatFee grace perMinute cap => [0x26, row, valid]
        ++ bytesOf 3 rate.toNat ++ bytesOf 2 flatFee.toNat ++ [grace] ++ bytesOf 2 perMinute.toNat
        ++ bytesOf 2 cap.toNat
      | .bindTariff mask row => [0x27] ++ bytesOf 2 mask.toNat ++ [row]
      | .setClock seconds => [0x28] ++ bytesOf 4 seconds.toNat
      | .quiesce => [0x29]
      | .resume => [0x2A]
      | .readAllotment pedestal => [0x2B, pedestal]
      | .readFeeder feeder => [0x2C, feeder]
      | .saveSettings => [0x2D]
      | .acknowledge mask => [0x2E, mask]
      | .setLevel cause level => [0x2F, cause, level])
    ∧ readSiteFrame r.frame false = .request r
    ∧ readSiteFrame r.frame true = .badFrame r.kind

/-- R136, R138, R187, Table 12.4: a well-formed answer frame of the polled pedestal is received whole
behind any bytes that are not AAH, and gives its report, the request clamped to the cap and the
reading reduced modulo 10^9. The same frame answers no other pedestal's poll, and with another check
value, or with a state code that names nothing, it gives no report. Characters without AAH, fewer than
fourteen from the first AAH on, or a framing error among those fourteen give no frame. -/
def Obligations.AnswerFramesReadBack : Prop :=
  ∀ (p q : Pedestal) (code flags : Byte) (request draw : BitVec 16) (reading : Word32) (cap : Nat)
    (noise : List LoopChar), (∀ c ∈ noise, c.byte ≠ 0xAA) →
    let fields := [BitVec.ofNat 8 p.val, code, flags] ++ wordBytes 2 request ++ wordBytes 2 draw
      ++ wordBytes 4 reading
    let frame := closeFrame 0xAA fields
    answerFrame (noise ++ frame.map fun b => { byte := b, framingError := false }) = some frame
    ∧ (∀ st, reportStateOf code = some st →
      reportOf frame p cap = some
        { state := st, stopPressed := flags.getLsbD 0, emergency := flags.getLsbD 1,
          request := min request.toNat cap, draw := draw.toNat,
          reading := reading.toNat % 1000000000 }
      ∧ (q ≠ p → reportOf frame q cap = none))
    ∧ (∀ check : BitVec 16, check ≠ crc16 fields →
      reportOf (0xAA :: fields ++ bytesOf 2 check.toNat) p cap = none)
    ∧ (5 ≤ code.toNat → reportOf frame p cap = none)
    ∧ answerFrame noise = none
    ∧ ∀ (start : LoopChar) (rest : List LoopChar), start.byte = 0xAA →
      (rest.length < 13 → answerFrame (noise ++ start :: rest) = none)
      ∧ ((∃ c ∈ start :: rest.take 13, c.framingError = true) →
        answerFrame (noise ++ start :: rest) = none)

/-- R185, R186, R189 to R191: the layouts and lengths of reply frames and bodies. Table 12.6 with the
segments of Table 12.7 for FETCH, also of a CORRUPT record, whose bytes are those read but for its numbers
and the Store Controller's two flags (notes/assumptions/24.md); the session view of R190; Tables 12.8 to
12.11, where the highest pending cause is the first of the highest level, or three zero bytes; the codes of
Table 12.2. A reply frame is C3H, the kind, the outcome's code, the flags, the park state, the two-byte
length, the body and the check value: nine bytes more than its body. A poll frame, laid out in
RoundStartPolls, is 19 bytes. -/
def Obligations.BodiesHaveTheirLengths : Prop :=
  let optional (width : Nat) (v : Option Nat) : List Byte :=
    match v with | some n => 1 :: bytesOf width n | none => List.replicate (width + 1) 0
  let stamp (c : ClockStamp) : List Byte :=
    (if c.clockSet then 0x81 else 0x80) :: bytesOf 4 c.seconds.toNat
  let flag (b : Bool) : Byte := BitVec.ofNat 8 b.toNat
  let segments (l : List Segment) : List Byte := bytesOf 1 l.length ++ l.flatMap fun g =>
    bytesOf 1 g.row ++ bytesOf 3 g.snapshot.rate ++ bytesOf 2 g.snapshot.flatFee
      ++ bytesOf 1 g.snapshot.grace ++ bytesOf 2 g.snapshot.perMinute ++ bytesOf 2 g.snapshot.cap
      ++ stamp g.start ++ bytesOf 5 g.billed ++ bytesOf 7 g.raw
  let highestSent (n : Nat) (v : Vector Notice n) (bytes : List Byte) : Prop :=
    (∀ c : Fin n, (cell v c).pending = true → (cell v c).level.val = 0) ∧ bytes = [0, 0, 0]
    ∨ ∃ c : Fin n, (cell v c).pending = true ∧ 0 < (cell v c).level.val
      ∧ (∀ d : Fin n, (cell v d).pending = true → (cell v d).level ≤ (cell v c).level
        ∧ (d < c → (cell v d).level < (cell v c).level))
      ∧ bytes = [1, BitVec.ofNat 8 c.val, BitVec.ofNat 8 (cell v c).level.val]
  (∀ (e : QueueEntry) (r : SettlementRecord), e.body = .built r →
    e.bytes.length = 66 + 28 * r.segments.length
    ∧ e.bytes = bytesOf 4 r.session ++ bytesOf 4 r.closeSequence ++ bytesOf 1 r.pedestal.val
      ++ bytesOf 4 r.customerRef.toNat ++ bytesOf 4 r.hold ++ stamp r.opened ++ stamp r.authorised
      ++ stamp r.closed ++ bytesOf 4 r.meterStart ++ bytesOf 4 r.meterEnd ++ bytesOf 5 r.billed
      ++ bytesOf 5 r.unbilled ++ bytesOf 4 r.overstayMinutes ++ bytesOf 2 r.overstayFee
      ++ bytesOf 2 r.flatFee ++ bytesOf 5 r.total ++ bytesOf 1 (CloseReason.code r.closeReason)
      ++ bytesOf 1 (r.meterDispute.toNat + 2 * r.segmentsFull.toNat + 4 * r.stopIgnored.toNat
        + 8 * e.notDurable.toNat + 16 * e.corrupt.toNat) ++ segments r.segments)
  ∧ (∀ (e : QueueEntry) (image : BodyImage), e.body = .asRead image →
    e.bytes.length = 66 + 28 * min image[65].toNat 8
    ∧ ∀ i, i < e.bytes.length → e.bytes.getD i 0 =
      if i < 8 then (bytesOf 4 e.session ++ bytesOf 4 e.closeSequence).getD i 0
      else if i = 64 then (image[64] &&& 0xE7)
        ||| BitVec.ofNat 8 (8 * e.notDurable.toNat + 16 * e.corrupt.toNat)
      else image.toList.getD i 0)
  ∧ (∀ (p : Pedestal) (x : Session),
    (sessionView p x).length = 87 + 28 * (x.earlier.length + 1)
    ∧ sessionView p x = bytesOf 4 x.number ++ bytesOf 1 p.val
      ++ bytesOf 1 (SessionState.code x.state)
      ++ optional 1 (x.stopReason.map StopReason.code) ++ optional 4 (x.customerRef.map (·.toNat))
      ++ optional 4 x.hold ++ stamp x.opened
      ++ (match x.authorised with | some c => stamp c | none => [0, 0, 0, 0, 0])
      ++ optional 4 x.meterStart ++ bytesOf 4 x.lastReading ++ bytesOf 4 x.lastStamp.toNat
      ++ bytesOf 5 x.billed ++ bytesOf 5 x.unbilled ++ bytesOf 4 x.overstayTime
      ++ bytesOf 4 x.overstayMinutes ++ bytesOf 2 x.overstayFee ++ bytesOf 2 x.flatFee
      ++ bytesOf 5 (((x.earlier ++ [x.current]).map (·.raw)).sum / 1000000 + x.flatFee
        + x.overstayFee)
      ++ optional 1 (x.parkedBy.map ParkedBy.code)
      ++ bytesOf 1 (x.meterDispute.toNat + 2 * x.segmentsFull.toNat + 4 * x.stopIgnored.toNat)
      ++ optional 4 x.authorisationWindow ++ optional 4 x.stopWindow ++ optional 4 x.linkLossTimer
      ++ segments (x.earlier ++ [x.current]))
  ∧ (∀ s : State, s.payStatusBody.length = 7 ∧ s.siteStatusBody.length = 14
    ∧ (∃ top, highestSent 5 s.pay.notices top ∧ s.payStatusBody =
      bytesOf 1 (ParkState.code s.park.state)
      ++ bytesOf 1 ((cell s.pay.notices 0).pending.toNat + 2 * (cell s.pay.notices 1).pending.toNat
        + 4 * (cell s.pay.notices 2).pending.toNat + 8 * (cell s.pay.notices 3).pending.toNat
        + 16 * (cell s.pay.notices 4).pending.toNat)
      ++ top ++ bytesOf 1 s.store.queue.length ++ bytesOf 1 s.account.authQueue.length)
    ∧ (∃ top, highestSent 7 s.site.notices top ∧ s.siteStatusBody =
      bytesOf 1 (ParkState.code s.park.state)
      ++ bytesOf 1 ((cell s.site.notices 0).pending.toNat
        + 2 * (cell s.site.notices 1).pending.toNat + 4 * (cell s.site.notices 2).pending.toNat
        + 8 * (cell s.site.notices 3).pending.toNat + 16 * (cell s.site.notices 4).pending.toNat
        + 32 * (cell s.site.notices 5).pending.toNat
        + 64 * (cell s.site.notices 6).pending.toNat)
      ++ top ++ stamp { seconds := s.time.clock, clockSet := s.time.clockSet }
      ++ bytesOf 1 s.park.openCount ++ bytesOf 1 s.store.queue.length
      ++ bytesOf 2 s.store.corrected)
    ∧ (∀ p, (s.allotmentBody p).length = 33 ∧ s.allotmentBody p =
      bytesOf 1 p.val ++ [flag (s.entry p).cfg.present] ++ bytesOf 1 (Feeder.code (s.entry p).cfg.feeder)
      ++ bytesOf 1 (s.entry p).cfg.cls.val ++ bytesOf 2 (s.entry p).cfg.cap
      ++ bytesOf 1 (RampMode.code (s.entry p).cfg.rampMode)
      ++ bytesOf 2 (match (s.loopEntry p).latest with | some r => r.request | none => 0)
      ++ bytesOf 2 (s.entry p).demand ++ [flag (s.entry p).admitted] ++ bytesOf 2 (s.entry p).target
      ++ bytesOf 2 (s.entry p).grant ++ optional 4 (s.entry p).rampTimer
      ++ optional 2 (s.entry p).tracking ++ bytesOf 1 (s.entry p).runCount
      ++ bytesOf 1 (LinkState.code (s.loopEntry p).link) ++ bytesOf 1 (s.loopEntry p).health
      ++ bytesOf 1 (s.loopEntry p).recovery
      ++ optional 4 ((s.loopEntry p).latestStamp.map (·.toNat)))
    ∧ ∀ f, (s.feederBody f).length = 23 ∧ s.feederBody f =
      bytesOf 1 (Feeder.code f) ++ bytesOf 2 (s.feeder f).cfg.ceiling
      ++ [flag (s.feeder f).cfg.sensorEnabled]
      ++ bytesOf 2 ((s.feeder f).cfg.tlow % 65536).toNat
      ++ bytesOf 2 ((s.feeder f).cfg.thigh % 65536).toNat ++ bytesOf 2 (s.feeder f).cfg.floor
      ++ optional 2 ((s.feeder f).latestTemp.map fun t => (t % 65536).toNat)
      ++ optional 2 (s.feeder f).computed ++ bytesOf 2 (s.feeder f).applied
      ++ bytesOf 2 (s.feeder f).effective ++ [flag (s.feeder f).sensorFault]
      ++ bytesOf 2 (pedestals.map fun p =>
        if (s.entry p).cfg.feeder = f then (s.entry p).grant else 0).sum)
  ∧ (∀ (k : Byte) (u d : Bool) (x : ParkState) (r : Reply),
      (replyFrame k u d x r).length = r.body.length + 9
      ∧ replyFrame k u d x r = closeFrame 0xC3 ([k, BitVec.ofNat 8 (OutcomeCode.code r.outcome),
        BitVec.ofNat 8 (u.toNat + 2 * d.toNat), BitVec.ofNat 8 (ParkState.code x)]
        ++ bytesOf 2 r.body.length ++ r.body))
  ∧ [OutcomeCode.done, .doneClamped, .range, .busyPedestal, .noSession, .late, .wrongState,
      .alreadyEnding, .empty, .notHead, .unknown, .invalidRow, .rowBound, .unknownKind, .badFrame,
      .notReady, .fault, .powerFail].map OutcomeCode.code = List.range 18
  ∧ [ParkState.starting, .open, .draining, .quiesced, .powerFail].map ParkState.code = [0, 1, 2, 3, 4]
  ∧ [SessionState.authorising, .ready, .delivering, .stopping, .parked].map SessionState.code
    = [1, 2, 3, 4, 5]
  ∧ [CloseReason.unplugged, .hold, .customerStop, .pedestalFault, .emergency, .cancelled, .linkLost,
      .powerFail].map CloseReason.code = List.range 8
  ∧ [StopReason.hold, .customerStop, .pedestalFault, .emergency, .cancelled].map StopReason.code
    = [1, 2, 3, 4, 5]
  ∧ [ParkedBy.complete, .stop].map ParkedBy.code = [0, 1]
  ∧ [LinkState.good, .doubtful, .lost].map LinkState.code = [0, 1, 2]
  ∧ [RampMode.hard, .soft].map RampMode.code = [0, 1]
  ∧ [Feeder.a, .b, .c, .d].map Feeder.code = [0, 1, 2, 3]
  ∧ ([0, 1, 2, 3, 4] : List Byte).map reportStateOf
    = [some .idle, some .plugged, some .charging, some .complete, some .fault]
  ∧ ∀ (s : State) (p : Pedestal), (s.pollFrame p).length = 19

/-! ### The two ports -/

/-- R154, R155, R119, R171: the readouts change nothing but their port, which holds the reply. STATUS is
taken in every park state. (EMPTY for FETCH with a SETTLING head, which no run reaches, is the model's
reading: notes/assumptions/18.md.) -/
def Obligations.ReadoutsAnswer : Prop :=
  ∀ s : State,
    (s.payTakes = true → exec .payStatus s = .next
      (s.payReplied 0x01 .done s.payStatusBody).finish)
    ∧ (s.siteTakes = true → exec .siteStatus s = .next
      (s.siteReplied 0x21 .done s.siteStatusBody).finish)
    ∧ (s.payServes = true →
      (s.account.authQueue = [] → exec .nextAuthorisation s = .next
        (s.payReplied 0x02 .empty []).finish)
      ∧ (∀ p rest x, s.account.authQueue = p :: rest → s.session p = some x →
        exec .nextAuthorisation s = .next
          (s.payReplied 0x02 .done (bytesOf 1 p.val ++ bytesOf 4 x.number ++ stampBytes x.opened
            ++ bytesOf 3 x.current.snapshot.rate
            ++ (match x.authorisationWindow with
              | some left => 1 :: bytesOf 4 left
              | none => [0, 0, 0, 0, 0]))).finish)
      ∧ (∀ b : Byte, 16 ≤ b.toNat → exec (.viewSession b) s = .next
        (s.payReplied 0x06 .range []).finish)
      ∧ (∀ (b : Byte) (p : Pedestal), b.toNat = p.val →
        (s.session p = none → exec (.viewSession b) s = .next
          (s.payReplied 0x06 .noSession []).finish)
        ∧ ∀ x, s.session p = some x → exec (.viewSession b) s = .next
          (s.payReplied 0x06 .done (sessionView p x)).finish)
      ∧ (∀ e rest, s.store.queue = e :: rest → e.state = .presentable → exec .fetch s = .next
        (s.payReplied 0x07 .done e.bytes).finish)
      ∧ ((∀ e rest, s.store.queue = e :: rest → e.state ≠ .presentable) → exec .fetch s = .next
        (s.payReplied 0x07 .empty []).finish))
    ∧ (s.siteServes = true →
      (∀ b : Byte, 16 ≤ b.toNat → exec (.readAllotment b) s = .next
        (s.siteReplied 0x2B .range []).finish)
      ∧ (∀ (b : Byte) (p : Pedestal), b.toNat = p.val → exec (.readAllotment b) s = .next
        (s.siteReplied 0x2B .done (s.allotmentBody p)).finish)
      ∧ (∀ b : Byte, 4 ≤ b.toNat → exec (.readFeeder b) s = .next
        (s.siteReplied 0x2C .range []).finish)
      ∧ (∀ (b : Byte) (f : Feeder), b.toNat = Feeder.code f → exec (.readFeeder b) s = .next
        (s.siteReplied 0x2C .done (s.feederBody f)).finish))

/-- R151, R152, R164, R165: a request that reaches a WORKING port is discarded with the dropped flag set
and nothing else but the read window closed, whatever it asks for, STATUS included, and whether or not its
frame would pass a check. (That the arrival closes an open read window is the model's reading:
notes/assumptions/10.md.) In STARTING every request taken but STATUS is answered NOT_READY, and in
POWER_FAIL POWER_FAIL, with an empty body and no other effect. -/
def Obligations.PortsDiscardAndRefuse : Prop :=
  ∀ s : State,
    (∀ unread : Bool, s.resetAsserted = false →
      (s.pay.state = .working unread →
        let dropped : State := { s with pay := { s.pay with window := none, dropped := true } }
        (∀ r : PayRequest, s.payRequest r = dropped.finish)
        ∧ ∀ (first : Byte) (rest : List Byte) (cut : Bool), first ≠ 0x0F →
          exec (.payUnknownRequest (first :: rest) cut) s = .next dropped.finish)
      ∧ (s.site.state = .working unread →
        let dropped : State := { s with site := { s.site with dropped := true } }
        (∀ r : SiteRequest, s.siteRequest r = dropped.finish)
        ∧ ∀ (frame : List Byte) (cut : Bool), frame ≠ [] →
          exec (.siteUnknownRequest frame cut) s = .next dropped.finish))
    ∧ (s.payTakes = true → ∀ r : PayRequest, r ≠ .status →
      (s.park.state = .starting → s.payRequest r = (s.payReplied r.kind .notReady []).finish)
      ∧ (s.park.state = .powerFail → s.payRequest r = (s.payReplied r.kind .powerFail []).finish))
    ∧ (s.siteTakes = true → ∀ r : SiteRequest, r ≠ .status →
      (s.park.state = .starting → s.siteRequest r = (s.siteReplied r.kind .notReady []).finish)
      ∧ (s.park.state = .powerFail →
        s.siteRequest r = (s.siteReplied r.kind .powerFail []).finish))

/-- R152, R165, R189: a frame that ends part-way through a byte, does not begin with 3CH, fails its check
or is too short to hold one, or has another length than its known kind requires, is answered BAD_FRAME; a
sound frame of a kind outside the port's column of Table 12.5 is answered UNKNOWN_KIND, whatever its
length; each with the second byte as the kind, 00H without one, and with no other effect, in every park
state. (That a frame of fewer than four bytes is too short for any kind: notes/assumptions/27.md.) A
window or transaction without a byte changes nothing (R149, R162); a window that begins with the read code
is a read window, and a sound frame of a known kind is that request (notes/assumptions/13.md). -/
def Obligations.UnknownFramesAreAnswered : Prop :=
  ∀ (s : State) (frame : List Byte) (cut : Bool),
    let kind : Byte := frame.getD 1 0
    let unsound : Prop := cut = true ∨ frame.head? ≠ some 0x3C ∨ frame.length < 4
      ∨ checkHolds (frame.drop 1) = false
    let payColumn : List (Nat × Nat) := [(0x01, 0), (0x02, 0), (0x03, 13), (0x04, 5), (0x05, 5),
      (0x06, 1), (0x07, 0), (0x08, 4), (0x09, 1), (0x0A, 2)]
    let siteColumn : List (Nat × Nat) := [(0x21, 0), (0x22, 2), (0x23, 10), (0x24, 7), (0x25, 11),
      (0x26, 12), (0x27, 3), (0x28, 4), (0x29, 0), (0x2A, 0), (0x2B, 1), (0x2C, 1), (0x2D, 0),
      (0x2E, 1), (0x2F, 2)]
    let wrongLength (column : List (Nat × Nat)) : Prop :=
      ∃ n, (kind.toNat, n) ∈ column ∧ frame.length ≠ n + 4
    let outside (column : List (Nat × Nat)) : Prop := ∀ n, (kind.toNat, n) ∉ column
    (s.payTakes = true →
      exec (.payUnknownRequest [] cut) s = .next s
      ∧ (frame ≠ [] → frame.head? ≠ some 0x0F →
        (unsound ∨ wrongLength payColumn → exec (.payUnknownRequest frame cut) s = .next
          (s.payReplied kind .badFrame []).finish)
        ∧ (¬ unsound → outside payColumn → exec (.payUnknownRequest frame cut) s = .next
          (s.payReplied kind .unknownKind []).finish))
      ∧ exec (.payUnknownRequest (0x0F :: frame) cut) s = exec (.payReadWindow frame.length)
        { s with pay := { s.pay with window := some s.pay.state.ready } }
      ∧ ∀ r : PayRequest, exec (.payUnknownRequest r.frame false) s = .next (s.payRequest r))
    ∧ (s.siteTakes = true →
      exec (.siteUnknownRequest [] cut) s = .next s
      ∧ (frame ≠ [] →
        (unsound ∨ wrongLength siteColumn → exec (.siteUnknownRequest frame cut) s = .next
          (s.siteReplied kind .badFrame []).finish)
        ∧ (¬ unsound → outside siteColumn → exec (.siteUnknownRequest frame cut) s = .next
          (s.siteReplied kind .unknownKind []).finish))
      ∧ ∀ r : SiteRequest, exec (.siteUnknownRequest r.frame false) s = .next (s.siteRequest r))

/-- R149, R153, R163: a read window that opens in REPLY_READY, and a read transaction in REPLY_READY,
send the held frame and filler beyond its end; read in full the port is IDLE, cut short it keeps the
reply. In any other state the window sends filler, the transaction's address is not acknowledged, and
the port's state does not change. -/
def Obligations.ReadsSendTheReply : Prop :=
  ∀ (s : State) (n : Nat), s.resetAsserted = false →
    exec .readWindowOpens s = .next
      ({ s with pay := { s.pay with window := some s.pay.state.ready } } : State).finish
    ∧ (∀ frame, s.pay.state = .replyReady frame → s.pay.window = some true →
      (frame.length ≤ n → exec (.payReadWindow n) s = .next
        ({ s with pay := { s.pay with
            window := none, state := .idle,
            payDo := frame ++ List.replicate (n - frame.length) 0xFF } } : State).finish)
      ∧ (n < frame.length → exec (.payReadWindow n) s = .next
        ({ s with pay := { s.pay with
            window := none, payDo := frame.take n } } : State).finish))
    ∧ (s.pay.window = some false → exec (.payReadWindow n) s = .next
      ({ s with pay := { s.pay with
          window := none, payDo := List.replicate n 0xFF } } : State).finish)
    ∧ (∀ frame, s.site.state = .replyReady frame →
      (frame.length ≤ n → exec (.siteReadTransaction n) s = .next
        ({ s with site := { s.site with
            state := .idle,
            siteRead := some (frame ++ List.replicate (n - frame.length) 0xFF) } } : State).finish)
      ∧ (n < frame.length → exec (.siteReadTransaction n) s = .next
        ({ s with site := { s.site with siteRead := some (frame.take n) } } : State).finish))
    ∧ (s.site.state.ready = false → exec (.siteReadTransaction n) s = .next
      ({ s with site := { s.site with siteRead := none } } : State).finish)

/-- R159, R160, R175: ACKNOWLEDGE clears the named event causes and no condition cause, and replies the
pending flags as they stand after it; SET LEVEL writes one level. A mask, cause or level out of range is
answered RANGE and changes nothing. -/
def Obligations.NoticesAreAcknowledgedAndLevelled : Prop :=
  ∀ s : State,
    (s.payServes = true →
      (∀ m : Byte, m.toNat < 32 → ∃ v : Vector Notice 5,
        (∀ i, (cell v i).level = (cell s.pay.notices i).level
          ∧ (cell v i).pending = ((cell s.pay.notices i).pending
              && !(m.getLsbD i.val && (i == 2 || i == 4))))
        ∧ exec (.payAcknowledge m) s = .next
          (({ s with pay := { s.pay with notices := v } } : State).payReplied 0x09 .done
            [BitVec.ofNat 8 (flagBits (v.toList.map (·.pending)))]).finish)
      ∧ (∀ m : Byte, 32 ≤ m.toNat → exec (.payAcknowledge m) s = .next
        (s.payReplied 0x09 .range []).finish)
      ∧ (∀ (c : Fin 5) (l : Fin 8),
        let v := putCell s.pay.notices c { cell s.pay.notices c with level := l }
        exec (.paySetLevel (BitVec.ofNat 8 c.val) (BitVec.ofNat 8 l.val)) s = .next
          (({ s with pay := { s.pay with notices := v } } : State).payReplied 0x0A .done []).finish)
      ∧ (∀ c l : Byte, 5 ≤ c.toNat ∨ 8 ≤ l.toNat → exec (.paySetLevel c l) s = .next
        (s.payReplied 0x0A .range []).finish))
    ∧ (s.siteServes = true →
      (∀ m : Byte, m.toNat < 128 → ∃ v : Vector Notice 7,
        (∀ i, (cell v i).level = (cell s.site.notices i).level
          ∧ (cell v i).pending = ((cell s.site.notices i).pending
              && !(m.getLsbD i.val && i != 2)))
        ∧ exec (.siteAcknowledge m) s = .next
          (({ s with site := { s.site with notices := v } } : State).siteReplied 0x2E .done
            [BitVec.ofNat 8 (flagBits (v.toList.map (·.pending)))]).finish)
      ∧ (∀ m : Byte, 128 ≤ m.toNat → exec (.siteAcknowledge m) s = .next
        (s.siteReplied 0x2E .range []).finish)
      ∧ (∀ (c : Fin 7) (l : Fin 8),
        let v := putCell s.site.notices c { cell s.site.notices c with level := l }
        exec (.siteSetLevel (BitVec.ofNat 8 c.val) (BitVec.ofNat 8 l.val)) s = .next
          (({ s with site := { s.site with notices := v } } : State).siteReplied 0x2F .done
            []).finish)
      ∧ (∀ c l : Byte, 7 ≤ c.toNat ∨ 8 ≤ l.toNat → exec (.siteSetLevel c l) s = .next
        (s.siteReplied 0x2F .range []).finish))

/-! ### Sessions from the payment side -/

/-- R10, R156: a pedestal above 15 or a session number 0 is RANGE; a number that is the slot's last-ended
one is LATE; any other that is not the slot's session is NO_SESSION. None of them changes anything, and
each reply echoes the pair. (AUTHORISE with its hold in range; out of range: AuthoriseMakesReady.) -/
def Obligations.UnmatchedPairsAreRefused : Prop :=
  ∀ (s : State) (b : Byte) (n hold ref : Word32) (o : OutcomeCode), s.payServes = true →
    (o = .range ∧ (16 ≤ b.toNat ∨ n.toNat = 0)
      ∨ ∃ p : Pedestal, b.toNat = p.val ∧ n.toNat ≠ 0 ∧ s.sessionNumber p ≠ n.toNat
        ∧ o = if (s.slot p).lastEnded = n.toNat then .late else .noSession) →
    let echo := [b] ++ bytesOf 4 n.toNat
    (1 ≤ hold.toNat → hold.toNat ≤ 9999999 →
      exec (.authorise b n hold ref) s = .next (s.payReplied 0x03 o echo).finish)
    ∧ exec (.decline b n) s = .next (s.payReplied 0x04 o echo).finish
    ∧ exec (.cancel b n) s = .next (s.payReplied 0x05 o echo).finish

/-- R11, R21, R81: AUTHORISE of a matching session in AUTHORISING: hold, customer reference, authorised
time and meter start are set, the window stops, the session leaves the queue and is READY, with the
link-loss timer started on a LOST link; the Engine recomputes. A hold outside 1 to 9,999,999 is RANGE
before any matching, and a matching session in another state WRONG_STATE. -/
def Obligations.AuthoriseMakesReady : Prop :=
  ∀ (s : State) (b : Byte) (n hold ref : Word32), s.payServes = true →
    let echo := [b] ++ bytesOf 4 n.toNat
    (hold.toNat = 0 ∨ 9999999 < hold.toNat →
      exec (.authorise b n hold ref) s = .next (s.payReplied 0x03 .range echo).finish)
    ∧ ∀ (p : Pedestal) (x : Session), b.toNat = p.val → s.session p = some x →
      x.number = n.toNat → n.toNat ≠ 0 → 1 ≤ hold.toNat → hold.toNat ≤ 9999999 →
      (x.state ≠ .authorising →
        exec (.authorise b n hold ref) s = .next (s.payReplied 0x03 .wrongState echo).finish)
      ∧ (x.state = .authorising →
        let y : Session :=
          { x with
            state := .ready, hold := some hold.toNat, customerRef := some ref,
            authorised := some { seconds := s.time.clock, clockSet := s.time.clockSet },
            meterStart := some x.lastReading, authorisationWindow := none,
            linkLossTimer := if (s.loopEntry p).link = .lost then some 60000 else x.linkLossTimer }
        let t : State := s.putSession p y
        exec (.authorise b n hold ref) s = .next
          (({ t with account := { t.account with
              authQueue := s.account.authQueue.filter fun q => decide (q ≠ p) } } :
            State).payReplied 0x03 .done echo).recompute.finish)

/-- R13, R14, R20: DECLINE and CANCEL of a matching session by its state. In AUTHORISING both void it:
the slot is FREE with the refused flag set and the number as its last-ended one, and the session leaves
the queue; the settlement queue, the close-sequence counter and the allotment are unchanged. In any
other state DECLINE is WRONG_STATE, and CANCEL closes a READY session at once with reason CANCELLED,
sends a DELIVERING one to STOPPING with reason CANCELLED, and leaves a STOPPING or PARKED one alone. -/
def Obligations.DeclineAndCancelFollowTheirTables : Prop :=
  ∀ (s : State) (b : Byte) (n : Word32) (p : Pedestal) (x : Session), s.payServes = true →
    b.toNat = p.val → s.session p = some x → x.number = n.toNat → n.toNat ≠ 0 →
    let echo := [b] ++ bytesOf 4 n.toNat
    (x.state ≠ .authorising →
      exec (.decline b n) s = .next (s.payReplied 0x04 .wrongState echo).finish)
    ∧ (x.state = .authorising →
      let t := s.putSlot p
        { s.slot p with session := none, refused := true, lastEnded := x.number }
      let freed : State := ({ t with account := { t.account with
        authQueue := s.account.authQueue.filter fun q => decide (q ≠ p) } } : State).reportCount
      exec (.decline b n) s = .next (freed.payReplied 0x04 .done echo).finish
      ∧ exec (.cancel b n) s = .next (freed.payReplied 0x05 .done (echo ++ [0x00])).finish)
    ∧ (x.state = .ready → exec (.cancel b n) s = .next
      ((s.close p .cancelled true).payReplied 0x05 .done (echo ++ [0x01])).recompute.finish)
    ∧ (x.state = .delivering →
      let y : Session :=
        { x with
          state := .stopping, stopReason := some (x.stopReason.getD .cancelled),
          stopWindow := some 15000 }
      exec (.cancel b n) s = .next
        (((s.putSession p y).endTracking p).payReplied 0x05 .done
          (echo ++ [0x02])).recompute.finish)
    ∧ (x.state = .stopping ∨ x.state = .parked → exec (.cancel b n) s = .next
      (s.payReplied 0x05 .alreadyEnding echo).finish)

/-- R22, R23, R108: a close: the record takes the close-sequence counter's value, the closed time and
the close total, and joins the tail of the settlement queue by the claim that RecordsClaimSlots states,
behind the records already there, which are unchanged; the slot is FREE with the number as its last-ended
one; draw tracking ends, and the count of open sessions is reported. -/
def Obligations.CloseBuildsTheRecord : Prop :=
  ∀ (s : State) (p : Pedestal) (x : Session) (reason : CloseReason) (refused : Bool),
    s.session p = some x →
    let t := s.close p reason refused
    t.slot p = { s.slot p with session := none, refused := refused, lastEnded := x.number }
    ∧ (∀ q, q ≠ p → t.slot q = s.slot q)
    ∧ t.account.nextClose = s.account.nextClose + 1
    ∧ t.account.nextNumber = s.account.nextNumber ∧ t.account.authQueue = s.account.authQueue
    ∧ t.account.rows = s.account.rows ∧ t.account.bindings = s.account.bindings
    ∧ t.park.openCount = t.occupied
    ∧ (t.entry p).tracking = none ∧ (t.entry p).grant = (s.entry p).grant
    ∧ (∀ q, q ≠ p → t.entry q = s.entry q) ∧ t.store.array = s.store.array
    ∧ t.time = s.time ∧ t.loop = s.loop ∧ t.meas = s.meas
    ∧ t.store.queue.length = s.store.queue.length + 1
    ∧ (let record : SettlementRecord :=
        { session := x.number, closeSequence := s.account.nextClose, pedestal := p,
          customerRef := x.customerRef.getD 0, hold := x.hold.getD 0, opened := x.opened,
          authorised := x.authorised.getD { seconds := 0, clockSet := false },
          closed := { seconds := s.time.clock, clockSet := s.time.clockSet },
          meterStart := x.meterStart.getD 0, meterEnd := x.lastReading, billed := x.billed,
          unbilled := x.unbilled, overstayMinutes := x.overstayMinutes,
          overstayFee := x.overstayFee, flatFee := x.flatFee,
          total := (((x.earlier ++ [x.current]).map (·.raw)).sum + 500000) / 1000000 + x.flatFee
            + x.overstayFee,
          closeReason := reason, meterDispute := x.meterDispute, segmentsFull := x.segmentsFull,
          stopIgnored := x.stopIgnored, segments := x.earlier ++ [x.current] }
      t.store = (s.enqueueRecord record).store ∧ t.pay = (s.enqueueRecord record).pay
      ∧ (∃ e, t.store.queue.getLast? = some e ∧ e.session = x.number
        ∧ e.closeSequence = s.account.nextClose ∧ e.corrupt = false ∧ e.body = .built record)
      ∧ ((∀ e ∈ s.store.queue, e.closeSequence < s.account.nextClose) →
        ∃ e, t.store.queue = s.store.queue ++ [e]))

/-- R116: a record that joins the queue claims the lowest FREE slot; with none, the ERASING slot whose
erase is in flight and which no record has claimed, which stays ERASING; else the lowest MARKED slot,
whose erase leaves the work list. Its write joins the first class. With none to claim it is PRESENTABLE
with NOT_DURABLE set, and STORE_FAULT is raised on both ports. -/
def Obligations.RecordsClaimSlots : Prop :=
  ∀ (s : State) (r : SettlementRecord), s.queued r.closeSequence = none →
    let t := s.enqueueRecord r
    let entry : QueueEntry :=
      { session := r.session, closeSequence := r.closeSequence, body := .built r, state := .writing,
        notDurable := false, corrupt := false, slot := none, eraseFirst := false }
    let erasing (i : RecordSlot) : Prop := ∃ left, s.store.flight = some { op := .erase i, left := left }
    let claimed (i : RecordSlot) : Prop :=
      ∃ e ∈ s.store.queue, e.state = .writing ∧ e.slot = some i
    (∀ i : RecordSlot, s.slotState i = .free → (∀ j, j < i → s.slotState j ≠ .free) →
      t.slotState i = .writing ∧ t.store.queue = s.store.queue ++ [{ entry with slot := some i }]
        ∧ t.store.firstClass = s.store.firstClass ++ [.recordWrite r.closeSequence]
        ∧ ∀ j, j ≠ i → t.slotState j = s.slotState j)
    ∧ ((∀ j, s.slotState j ≠ .free) →
      (∀ i, erasing i → ¬ claimed i → s.slotState i = .erasing →
        t.store = { s.store with
          queue := s.store.queue ++ [{ entry with slot := some i }]
          firstClass := s.store.firstClass ++ [.recordWrite r.closeSequence] })
      ∧ ((∀ i, erasing i → claimed i) →
        (∀ i : RecordSlot, s.slotState i = .marked → (∀ j, j < i → s.slotState j ≠ .marked) →
          t.slotState i = .writing
            ∧ t.store.queue = s.store.queue ++ [{ entry with slot := some i, eraseFirst := true }]
            ∧ t.store.firstClass = s.store.firstClass ++ [.recordWrite r.closeSequence]
            ∧ (t.store.secondClass = s.store.secondClass.filter fun w => decide (w ≠ .erase i))
            ∧ ∀ j, j ≠ i → t.slotState j = s.slotState j)
        ∧ ((∀ j, s.slotState j ≠ .marked) →
          t.store.queue =
              s.store.queue ++ [{ entry with state := .presentable, notDurable := true }]
            ∧ t.store.firstClass = s.store.firstClass ∧ t.store.slotStates = s.store.slotStates
            ∧ (cell t.pay.notices 4).pending = true ∧ (cell t.site.notices 3).pending = true)))

/-- R120: SETTLE by the place of the number in the settlement queue; the head alone is touched. -/
def Obligations.SettleFollowsItsTable : Prop :=
  ∀ (s : State) (n : Word32), s.payServes = true →
    let echo := bytesOf 4 n.toNat
    ((∀ e ∈ s.store.queue, e.session ≠ n.toNat) →
      exec (.settle n) s = .next (s.payReplied 0x08 .unknown echo).finish)
    ∧ ∀ e rest, s.store.queue = e :: rest →
      (e.session ≠ n.toNat → (∃ y ∈ rest, y.session = n.toNat) →
        exec (.settle n) s = .next (s.payReplied 0x08 .notHead echo).finish)
      ∧ (e.session = n.toNat →
        (e.state = .writing →
          exec (.settle n) s = .next (s.payReplied 0x08 .empty echo).finish)
        ∧ (e.state = .presentable → e.notDurable = true →
          exec (.settle n) s = .next
            (({ s with store := { s.store with queue := rest } } : State).payReplied 0x08 .done
              echo).finish)
        ∧ (e.state = .presentable → e.notDurable = false →
          exec (.settle n) s = .next
            (({ s with store := { s.store with
                queue := { e with state := .settling } :: rest
                firstClass := s.store.firstClass ++ [.settledMark e.closeSequence] } } :
              State).payWorking).finish))

/-! ### Configuration, clock and park state from the site side -/

/-- R28, R166, R179: SET SITE CEILING stores its value, clamped to 60,000, and recomputes once; the reply
carries the ceiling as stored. SET CLOCK gives the park clock its value, returns the phase to 0 and sets
CLOCK_SET; the millisecond counter is not touched. -/
def Obligations.SiteCeilingAndClockAreSet : Prop :=
  ∀ s : State, s.siteServes = true →
    (∀ c : BitVec 16,
      (c.toNat ≤ 60000 → exec (.setSiteCeiling c) s = .next
        ((({ s with allot := { s.allot with siteCeiling := c.toNat } } :
          State).recompute).siteReplied 0x22 .done (bytesOf 2 c.toNat)).finish)
      ∧ (60000 < c.toNat → exec (.setSiteCeiling c) s = .next
        ((({ s with allot := { s.allot with siteCeiling := 60000 } } :
          State).recompute).siteReplied 0x22 .doneClamped (bytesOf 2 60000)).finish))
    ∧ ∀ c : Word32, exec (.setClock c) s = .next
      (({ s with time := { ms := s.time.ms, clock := c, phase := 0, clockSet := true } } :
        State).siteReplied 0x28 .done []).finish

/-- R74, R166: SET FEEDER with a feeder, a sensor code, temperatures and a floor in range stores them,
the ceiling clamped to 30,000; the applied factor and the other temperature fields change by the three
cases of R74, a change of the applied factor raises DERATE_CHANGE, and the Engine recomputes once. A
code, temperature or floor out of range is RANGE and changes nothing. (That the DONE body does not carry
the feeder code is the model's reading: notes/assumptions/12.md.) -/
def Obligations.SetFeederStores : Prop :=
  ∀ (s : State) (b sensor : Byte) (ceiling tlow thigh floor : BitVec 16), s.siteServes = true →
    (4 ≤ b.toNat ∨ 2 ≤ sensor.toNat ∨ tlow.toInt < -300 ∨ 1199 < tlow.toInt
        ∨ thigh.toInt < -300 ∨ 1199 < thigh.toInt ∨ thigh.toInt ≤ tlow.toInt ∨ 1000 < floor.toNat →
      exec (.setFeeder b ceiling sensor tlow thigh floor) s = .next
        (s.siteReplied 0x23 .range []).finish)
    ∧ ∀ (f : Feeder) (on : Bool), b.toNat = Feeder.code f → sensor.toNat = on.toNat →
      -300 ≤ tlow.toInt → tlow.toInt < thigh.toInt → thigh.toInt ≤ 1199 → floor.toNat ≤ 1000 →
      let old := s.feeder f
      let stored := min ceiling.toNat 30000
      let applied :=
        if on then
          if old.cfg.sensorEnabled then
            if old.sensorFault then floor.toNat else max old.applied floor.toNat
          else old.applied
        else 1000
      let new : FeederEntry :=
        { cfg := { ceiling := stored, sensorEnabled := on, tlow := tlow.toInt, thigh := thigh.toInt,
                   floor := floor.toNat }
          effective := old.effective
          latestTemp := old.latestTemp
          computed := if on then old.computed else none
          applied := applied
          sensorFault := on && old.sensorFault
          firstMark := true }
      let put := s.putFeeder f new
      let t := (if applied = old.applied then put else put.raiseSite .derateChange).recompute
      exec (.setFeeder b ceiling sensor tlow thigh floor) s = .next
        (t.siteReplied 0x23 (if ceiling.toNat ≤ 30000 then .done else .doneClamped)
          (bytesOf 2 stored ++ [BitVec.ofNat 8 on.toNat] ++ bytesOf 2 tlow.toNat
            ++ bytesOf 2 thigh.toNat ++ bytesOf 2 floor.toNat ++ bytesOf 2 applied
            ++ bytesOf 2 (stored * applied / 1000))).finish

/-- R28, R144, R167: SET PEDESTAL of a FREE slot stores the configuration, the cap clamped to 4000,
restarts the loop entry when the present flag changed, and recomputes once; a slot with a session
is BUSY_PEDESTAL, and an argument out of range RANGE, tested first; both change nothing. -/
def Obligations.SetPedestalStores : Prop :=
  ∀ (s : State) (b present feeder cls mode : Byte) (cap : BitVec 16), s.siteServes = true →
    (16 ≤ b.toNat ∨ 2 ≤ present.toNat ∨ 4 ≤ feeder.toNat ∨ 4 ≤ cls.toNat ∨ 2 ≤ mode.toNat →
      exec (.setPedestal b present feeder cls cap mode) s = .next
        (s.siteReplied 0x24 .range [b]).finish)
    ∧ ∀ (p : Pedestal) (on : Bool) (f : Feeder) (c : Fin 4) (m : RampMode), b.toNat = p.val →
      present.toNat = on.toNat → feeder.toNat = Feeder.code f → cls.toNat = c.val →
      mode.toNat = RampMode.code m →
      ((s.session p).isSome = true → exec (.setPedestal b present feeder cls cap mode) s = .next
        (s.siteReplied 0x24 .busyPedestal [b]).finish)
      ∧ (s.session p = none →
        let stored := min cap.toNat 4000
        let cfg : PedestalConfig :=
          { present := on, feeder := f, cls := c, cap := stored, rampMode := m }
        let put := s.putEntry p { s.entry p with cfg := cfg }
        let restarted := put.putLoopEntry p
          { health := 0, link := .good, recovery := 0, latest := none, latestStamp := none }
        let t := if on = (s.entry p).cfg.present then put else restarted
        exec (.setPedestal b present feeder cls cap mode) s = .next
          (t.recompute.siteReplied 0x24 (if cap.toNat ≤ 4000 then .done else .doneClamped)
            ([b, present, feeder, cls] ++ bytesOf 2 stored ++ [mode])).finish)

/-- R28, R63, R168: SET PARAMETERS clamps the five values into their ranges and stores all seven; a
change of the tracking mode clears every tracking state and run count; the Engine recomputes once. A
mode or option code that names nothing is RANGE. (That the reply carries the hold reserve in two bytes is the
model's reading: notes/assumptions/31.md.) -/
def Obligations.SetParametersStores : Prop :=
  ∀ (s : State) (m st sl h : BitVec 16) (i tr q : Byte), s.siteServes = true →
    (2 ≤ tr.toNat ∨ 2 ≤ q.toNat →
      exec (.setParameters m st i sl h tr q) s = .next (s.siteReplied 0x25 .range []).finish)
    ∧ ∀ on quiesced : Bool, tr.toNat = on.toNat → q.toNat = quiesced.toNat →
      let new : Parameters :=
        { minGrant := max 10 (min m.toNat 500), step := max 10 (min st.toNat 1000),
          stepInterval := max 1 (min i.toNat 15), slack := max 10 (min sl.toNat 500),
          holdReserve := min h.toNat 1000, trackingOn := on }
      let entries := if on = s.allot.parameters.trackingOn then s.allot.entries
        else mapCells (fun _ e => { e with tracking := none, runCount := 0 }) s.allot.entries
      let t : State :=
        { s with
          allot := { s.allot with parameters := new, entries := entries }
          park := { s.park with startQuiesced := quiesced } }
      let asSent := new.minGrant = m.toNat ∧ new.step = st.toNat ∧ new.stepInterval = i.toNat
        ∧ new.slack = sl.toNat ∧ new.holdReserve = h.toNat
      exec (.setParameters m st i sl h tr q) s = .next
        (t.recompute.siteReplied 0x25 (if asSent then .done else .doneClamped)
          (bytesOf 2 new.minGrant ++ bytesOf 2 new.step ++ bytesOf 1 new.stepInterval
            ++ bytesOf 2 new.slack ++ bytesOf 2 new.holdReserve ++ [tr, q])).finish

/-- R93, R169: WRITE TARIFF ROW: RANGE, then ROW_BOUND for an invalidating write of a row that a
present pedestal is bound to, else every field is written; the reply echoes the row. -/
def Obligations.WriteTariffRowWrites : Prop :=
  ∀ (s : State) (row valid grace : Byte) (rate : BitVec 24) (fee perMinute cap : BitVec 16),
    s.siteServes = true →
    (8 ≤ row.toNat ∨ 2 ≤ valid.toNat ∨ 999999 < rate.toNat →
      exec (.writeTariffRow row valid rate fee grace perMinute cap) s = .next
        (s.siteReplied 0x26 .range [row]).finish)
    ∧ ∀ (r : RowIndex) (v : Bool), row.toNat = r.val → valid.toNat = v.toNat → rate.toNat ≤ 999999 →
      (v = false → (∃ p, (s.entry p).cfg.present = true ∧ cell s.account.bindings p = r) →
        exec (.writeTariffRow row valid rate fee grace perMinute cap) s = .next
          (s.siteReplied 0x26 .rowBound [row]).finish)
      ∧ (v = true ∨ (∀ p, cell s.account.bindings p = r → (s.entry p).cfg.present = false) →
        let new : TariffRow :=
          { valid := v
            tariff := { rate := rate.toNat, flatFee := fee.toNat, grace := grace.toNat,
                        perMinute := perMinute.toNat, cap := cap.toNat } }
        let rows := putCell s.account.rows r new
        exec (.writeTariffRow row valid rate fee grace perMinute cap) s = .next
          (({ s with account := { s.account with rows := rows } } : State).siteReplied 0x26 .done
            [row]).finish)

/-- R95 to R98, R169: BIND TARIFF: RANGE, INVALID_ROW, or every named pedestal is bound to the row and
its session treated by its state: an AUTHORISING one has its segment replaced; another keeps its
segments when the five values are equal, opens a new one when they differ and the list has room, and
has SEGMENTS_FULL set when it has none. Every other pedestal, and every other field, is unchanged. -/
def Obligations.BindTariffBinds : Prop :=
  ∀ (s : State) (mask : BitVec 16) (row : Byte), s.siteServes = true →
    let echo := bytesOf 2 mask.toNat ++ [row]
    (8 ≤ row.toNat → exec (.bindTariff mask row) s = .next (s.siteReplied 0x27 .range echo).finish)
    ∧ ∀ r : RowIndex, row.toNat = r.val →
      let named := cell s.account.rows r
      (named.valid = false →
        exec (.bindTariff mask row) s = .next (s.siteReplied 0x27 .invalidRow echo).finish)
      ∧ (named.valid = true → ∃ (slots : Vector SessionSlot 16) (bindings : Vector RowIndex 16),
        exec (.bindTariff mask row) s = .next
          (({ s with account := { s.account with slots := slots, bindings := bindings } } :
            State).siteReplied 0x27 .done echo).finish
        ∧ (∀ p, mask.getLsbD p.val = false →
          cell bindings p = cell s.account.bindings p ∧ cell slots p = s.slot p)
        ∧ ∀ p, mask.getLsbD p.val = true →
          cell bindings p = r
          ∧ (s.session p = none → cell slots p = s.slot p)
          ∧ ∀ x, s.session p = some x →
            let fresh : Segment :=
              { row := r.val, snapshot := named.tariff,
                start := { seconds := s.time.clock, clockSet := s.time.clockSet },
                billed := 0, raw := 0 }
            (x.state = .authorising → cell slots p =
              { s.slot p with session := some { x with earlier := [], current := fresh } })
            ∧ (x.state ≠ .authorising → x.current.snapshot = named.tariff →
              cell slots p = s.slot p)
            ∧ (x.state ≠ .authorising → x.current.snapshot ≠ named.tariff → x.earlier.length < 7 →
              cell slots p = { s.slot p with
                session := some { x with earlier := x.earlier ++ [x.current], current := fresh } })
            ∧ (x.state ≠ .authorising → x.current.snapshot ≠ named.tariff → 7 ≤ x.earlier.length →
              cell slots p = { s.slot p with session := some { x with segmentsFull := true } }))

/-- R170, R180, R174, R23: QUIESCE, RESUME and the reported count of open sessions follow the table of
R180: QUIESCE and RESUME in each state, and a count of 0, which moves DRAINING to QUIESCED and no other
state. Each change raises PARK_STATE. (That the DONE body of QUIESCE and RESUME is the park state's one
byte is the model's reading: notes/assumptions/12.md.) -/
def Obligations.QuiesceAndResumeFollowTheirTable : Prop :=
  (∀ s : State, s.siteTakes = true →
    let moved (x : ParkState) : State :=
      ({ s with park := { s.park with state := x } } : State).raiseSite .parkState
    (s.park.state = .open →
      (0 < s.park.openCount → exec .quiesce s = .next
        ((moved .draining).siteReplied 0x29 .done [0x02]).finish)
      ∧ (s.park.openCount = 0 → exec .quiesce s = .next
        ((moved .quiesced).siteReplied 0x29 .done [0x03]).finish)
      ∧ exec .resume s = .next (s.siteReplied 0x2A .done [0x01]).finish)
    ∧ (s.park.state = .draining →
      exec .quiesce s = .next (s.siteReplied 0x29 .done [0x02]).finish
      ∧ exec .resume s = .next ((moved .open).siteReplied 0x2A .done [0x01]).finish)
    ∧ (s.park.state = .quiesced →
      exec .quiesce s = .next (s.siteReplied 0x29 .done [0x03]).finish
      ∧ exec .resume s = .next ((moved .open).siteReplied 0x2A .done [0x01]).finish))
  ∧ ∀ s : State,
    let count := (pedestals.filter fun p => (s.session p).isSome).length
    (s.park.state = .draining → (∀ p, s.session p = none) → s.reportCount =
      { s with
        park := { s.park with openCount := 0, state := .quiesced }
        site := { s.site with
          notices := putCell s.site.notices 5 { cell s.site.notices 5 with pending := true } } })
    ∧ (s.park.state ≠ .draining ∨ (∃ p, (s.session p).isSome = true) →
      s.reportCount = { s with park := { s.park with openCount := count } })

/-- R128, R173: SAVE SETTINGS copies every item of R128 as it stands and queues the save into the second
class; the port stays WORKING. -/
def Obligations.SaveSettingsQueuesACopy : Prop :=
  ∀ s : State, s.siteServes = true → ∃ c : Settings,
    (∀ p, cell c.pedestals p = (s.entry p).cfg) ∧ c.bindings = s.account.bindings
    ∧ (∀ f, cell c.feeders (Feeder.idx f) = (s.feeder f).cfg)
    ∧ c.siteCeiling = s.allot.siteCeiling ∧ c.parameters = s.allot.parameters
    ∧ c.rows = s.account.rows
    ∧ (∀ i, cell c.payLevels i = (cell s.pay.notices i).level)
    ∧ (∀ i, cell c.siteLevels i = (cell s.site.notices i).level)
    ∧ c.startQuiesced = s.park.startQuiesced
    ∧ exec .saveSettings s = .next
      (({ s with store := { s.store with
          secondClass := s.store.secondClass ++ [.save c] } } : State).siteWorking).finish

/-! ### Timers -/

/-- R12, R14: the authorisation window of an AUTHORISING session expires at its due moment: the slot
is FREE with the refused flag set and the number as its last-ended one, and the session leaves the
queue. A stopped window does not expire. (The due moment: notes/assumptions/2.md.) -/
def Obligations.AuthorisationWindowVoids : Prop :=
  ∀ (s : State) (p : Pedestal), s.resetAsserted = false →
    (s.session p = none → exec (.authorisationWindowExpiry p) s = .next s)
    ∧ ∀ x, s.session p = some x →
      (x.authorisationWindow = none → exec (.authorisationWindowExpiry p) s = .next s)
      ∧ ∀ left, x.authorisationWindow = some left → x.state = .authorising →
        let u := State.advance left s
        let t := u.putSlot p
          { s.slot p with session := none, refused := true, lastEnded := x.number }
        exec (.authorisationWindowExpiry p) s = .next
          ({ t with account := { t.account with
              authQueue := s.account.authQueue.filter fun q => decide (q ≠ p) } } :
            State).reportCount.finish

/-- R18: the stop window of a STOPPING session expires at its due moment: STOP_IGNORED is set and
the session is PARKED by STOP, its window stopped. A stopped window does not expire. (The due
moment: notes/assumptions/2.md.) -/
def Obligations.StopWindowParks : Prop :=
  ∀ (s : State) (p : Pedestal) (x : Session), s.resetAsserted = false → s.session p = some x →
    (x.stopWindow = none → exec (.stopWindowExpiry p) s = .next s)
    ∧ ∀ left, x.stopWindow = some left → x.state = .stopping → (s.entry p).tracking = none →
      exec (.stopWindowExpiry p) s = .next
        ((State.advance left s).putSession p
          { x.advance left with
            state := .parked, parkedBy := some .stop, stopWindow := none,
            stopIgnored := true }).finish

/-- R21: the link-loss timer of an authorised session expires at its due moment: the session closes
with reason LINK_LOST and the refused flag set, and the Engine recomputes where the session counted
for power. A stopped timer does not expire. (The due moment: notes/assumptions/2.md.) -/
def Obligations.LinkLossTimerCloses : Prop :=
  ∀ (s : State) (p : Pedestal) (x : Session), s.resetAsserted = false → s.session p = some x →
    (x.linkLossTimer = none → exec (.linkLossTimerExpiry p) s = .next s)
    ∧ ∀ left, x.linkLossTimer = some left →
      let t := (State.advance left s).close p .linkLost true
      (x.state = .ready ∨ x.state = .delivering →
        exec (.linkLossTimerExpiry p) s = .next t.recompute.finish)
      ∧ (x.state = .stopping ∨ x.state = .parked → (s.entry p).tracking = none →
        exec (.linkLossTimerExpiry p) s = .next t.finish)

/-- R51, R52, R56: a ramp timer's expiry raises the grant by the step toward the target and the peak
with it, and arms the timer again, or stops it at the target; nothing is recomputed. A stopped timer
does not expire. (The due moment: notes/assumptions/2.md.) -/
def Obligations.RampExpiryStepsTheGrant : Prop :=
  ∀ (s : State) (p : Pedestal), s.resetAsserted = false →
    let e := s.entry p
    (e.rampTimer = none → exec (.rampTimerExpiry p) s = .next s)
    ∧ ∀ left, e.rampTimer = some left →
      let g := min e.target (e.grant + s.allot.parameters.step)
      exec (.rampTimerExpiry p) s = .next
        ((State.advance left s).putEntry p
          { e with
            grant := g
            peak := max e.peak g
            rampTimer := if g < e.target then some (s.allot.parameters.stepInterval * 200)
              else none }).finish

/-- R105, R106: the k-th overstay minute of a PARKED session ends when its overstay time reaches k ×
60,000 ms; within the grace of the current segment it changes nothing, beyond it one minute is
charged and the fee rises by the smallest of the per-minute fee, the room under the largest cap, and
the room under the hold, 0 where that would be below 0. (The due moment: notes/assumptions/2.md.) -/
def Obligations.OverstayMinuteCharges : Prop :=
  ∀ (s : State) (p : Pedestal) (x : Session), s.resetAsserted = false → s.session p = some x →
    let k := x.minutesEnded + 1
    (x.state ≠ .parked → exec (.overstayMinuteEnd p) s = .next s)
    ∧ (x.state = .parked → k * 60000 ≤ 4294967295 →
      let u := State.advance (k * 60000 - x.overstayTime) s
      let y := x.advance (k * 60000 - x.overstayTime)
      let caps := (x.earlier ++ [x.current]).map (·.snapshot.cap)
      let committed := ((x.earlier ++ [x.current]).map (·.raw)).sum / 1000000 + x.flatFee
        + x.overstayFee
      (k ≤ x.current.snapshot.grace → exec (.overstayMinuteEnd p) s = .next
        (u.putSession p { y with minutesEnded := k }).finish)
      ∧ (x.current.snapshot.grace < k → exec (.overstayMinuteEnd p) s = .next
        (u.putSession p
          { y with
            minutesEnded := k
            overstayMinutes := x.overstayMinutes + 1
            overstayFee := x.overstayFee + min x.current.snapshot.perMinute
              (min (caps.foldl max 0 - x.overstayFee) (x.hold.getD 0 - committed)) }).finish))

/-! ### The pedestal loop -/

/-- R132 to R135, R101, R109, Table 1.5: a round counts up and the next is due 100 ms later; the present
pedestals whose link is not LOST, and in every eighth round those too, are polled in ascending order, and
the first exchange begins with the first of them: its poll frame is sent, built from the state as it
stands, with the command of R135, the grant, the session number, the display rate and the committed
amount. (The model's choices: the round begins at its due moment, notes/assumptions/2.md; the poll frame
is sent whole in the event, so that LOOP_DE is low after it, and the exchange has at most 2 ms left,
notes/assumptions/9.md.) -/
def Obligations.RoundStartPolls : Prop :=
  let command (s : State) (p : Pedestal) : Byte :=
    if s.park.state = .powerFail then 6
    else match s.session p with
      | none => if (s.slot p).refused then 2 else if (s.slot p).unavailable then 3 else 0
      | some x => match x.state with
        | .authorising => 1
        | .ready | .delivering => if (s.entry p).admitted then 5 else 4
        | .stopping => 6
        | .parked => if x.parkedBy = some .complete then 5 else 6
  let directive (s : State) (p : Pedestal) : List Byte :=
    let row := cell s.account.rows (cell s.account.bindings p)
    closeFrame 0x55 ([BitVec.ofNat 8 p.val, command s p] ++ bytesOf 2 (s.entry p).grant
      ++ match s.session p with
        | some x => bytesOf 4 x.number ++ bytesOf 3 x.current.snapshot.rate
          ++ bytesOf 5 (((x.earlier ++ [x.current]).map (·.raw)).sum / 1000000 + x.flatFee
            + x.overstayFee)
        | none => bytesOf 4 0 ++ bytesOf 3 (if row.valid then row.tariff.rate else 0) ++ bytesOf 5 0)
  (∀ (s : State) (p : Pedestal), s.pollFrame p = directive s p)
  ∧ ∀ (s : State) (left : Nat), s.resetAsserted = false → s.loop.nextRound = some left →
    s.loop.exchange = none →
    let u := State.advance left s
    let t : State :=
      { u with loop := { u.loop with round := s.loop.round + 1, nextRound := some 100 } }
    let due (p : Pedestal) : Prop := (s.entry p).cfg.present = true
      ∧ ((s.loopEntry p).link ≠ .lost ∨ (s.loop.round + 1).toNat % 8 = 0)
    (∀ p, due p → (∀ q, q < p → ¬ due q) → exec .roundStart s = .next
      ({ t with loop := { t.loop with
          exchange := some { pedestal := p, left := 2 }
          loopTx := directive t p
          driverEnable := false } } : State).finish)
    ∧ ((∀ p, ¬ due p) → exec .roundStart s = .next t.finish)

/-- R21, R132, R133, R139, R140, R142, R143: an answer window that closes without a complete frame is a
miss: the health counter rises by 8 up to 255, the recovery run ends, and a link that is not LOST takes
the state of its counter. A changed link raises LINK_CHANGE, starts the link-loss timer of an authorised
session when it is now LOST and stops it otherwise, and the Engine recomputes. Then the next exchange of
the round begins, with the first present pedestal after this one whose link is not LOST, or in every
eighth round with the first present one; with none left the round ends. (LOOP_DE low after the poll, and
the 2 ms of the exchange: notes/assumptions/9.md.) -/
def Obligations.MissesWeakenTheLink : Prop :=
  (∀ (s : State) (x : Exchange), s.resetAsserted = false → s.loop.exchange = some x →
    let p := x.pedestal
    let old := s.loopEntry p
    let h := min (old.health + 8) 255
    let new : LoopEntry :=
      { old with
        health := h, recovery := 0
        link := if old.link = .lost then .lost
          else if h < 64 then .good else if h < 128 then .doubtful else .lost }
    let t := s.putLoopEntry p new
    (new.link = old.link → exec .answerWindowClose s = .next (t.beginExchange (p.val + 1)).finish)
    ∧ (new.link ≠ old.link →
      let raised := t.raiseSite .linkChange
      (s.session p = none → exec .answerWindowClose s = .next
        (raised.recompute.beginExchange (p.val + 1)).finish)
      ∧ ∀ y, s.session p = some y →
        let timer := if new.link = .lost then
            if y.state = .authorising then y.linkLossTimer else some 60000
          else none
        exec .answerWindowClose s = .next
          (((raised.putSession p { y with linkLossTimer := timer }).recompute).beginExchange
            (p.val + 1)).finish))
  ∧ ∀ (s : State) (from_ : Nat),
    let due (p : Pedestal) : Prop := from_ ≤ p.val ∧ (s.entry p).cfg.present = true
      ∧ ((s.loopEntry p).link ≠ .lost ∨ s.loop.round.toNat % 8 = 0)
    (∀ p, due p → (∀ q, q < p → ¬ due q) → s.beginExchange from_ =
      { s with loop := { s.loop with
          exchange := some { pedestal := p, left := 2 }, loopTx := s.pollFrame p
          driverEnable := false } })
    ∧ ((∀ p, ¬ due p) → s.beginExchange from_ = { s with loop := { s.loop with exchange := none } })

/-- R6, R136, R137, R139 to R142: an accepted answer lowers the health counter by 1, or on a LOST link
counts toward the eight that make it GOOD; its report is stored with the millisecond counter as its
stamp. A PLUGGED report at a FREE slot that meets every condition of R6 opens a session: it takes the
next number and the tail of the authorisation queue, and its record starts as Table 1.1 says. An answer
that fails a test of R136 is a miss. -/
def Obligations.AnswersAreAcceptedOrMissed : Prop :=
  ∀ (s : State) (x : Exchange) (rx : List LoopChar) (frame : List Byte), s.resetAsserted = false →
    s.loop.exchange = some x → answerFrame rx = some frame →
    let p := x.pedestal
    let old := s.loopEntry p
    let read := reportOf frame p (s.entry p).cfg.cap
    (read = none → exec (.answerFrameReceived rx) s = exec .answerWindowClose s)
    ∧ ∀ r, read = some r → ∃ t, exec (.answerFrameReceived rx) s = .next t
      ∧ (old.link ≠ .lost → t.loopEntry p =
        { health := old.health - 1, recovery := 0
          link := if old.health - 1 < 64 then .good
            else if old.health - 1 < 128 then .doubtful else .lost
          latest := some r, latestStamp := some s.time.ms })
      ∧ (old.link = .lost → old.recovery < 7 → t.loopEntry p =
        { old with
          recovery := old.recovery + 1, latest := some r, latestStamp := some s.time.ms })
      ∧ (old.link = .lost → 7 ≤ old.recovery → t.loopEntry p =
        { health := 0, link := .good, recovery := 0, latest := some r,
          latestStamp := some s.time.ms })
      ∧ (∀ q, q ≠ p → t.loopEntry q = s.loopEntry q ∧ t.slot q = s.slot q)
      ∧ t.time = s.time ∧ t.meas = s.meas
      ∧ (r.state = .plugged → s.session p = none → (s.slot p).refused = false →
        s.park.state = .open → s.store.queue.length < 32 →
        s.account.nextNumber < s.account.reservationLimit → (s.entry p).cfg.present = true →
        (cell s.account.rows (cell s.account.bindings p)).valid = true →
        s.account.nextClose + s.occupied ≤ 4294967295 →
        let now : ClockStamp := { seconds := s.time.clock, clockSet := s.time.clockSet }
        let row := cell s.account.bindings p
        t.slot p =
          { session := some
              { number := s.account.nextNumber, state := .authorising, stopReason := none,
                customerRef := none, hold := none, opened := now, authorised := none,
                meterStart := none, lastReading := r.reading, lastStamp := s.time.ms, billed := 0,
                unbilled := 0, earlier := [],
                current := { row := row.val, snapshot := (cell s.account.rows row).tariff,
                             start := now, billed := 0, raw := 0 },
                overstayTime := 0, minutesEnded := 0, overstayMinutes := 0, overstayFee := 0,
                flatFee := 0, parkedBy := none, meterDispute := false, segmentsFull := false,
                stopIgnored := false, authorisationWindow := some 120000, stopWindow := none,
                linkLossTimer := none }
            refused := false, unavailable := false, lastEnded := (s.slot p).lastEnded }
        ∧ t.account.nextNumber = s.account.nextNumber + 1
        ∧ t.account.authQueue = s.account.authQueue ++ [p] ∧ t.park.openCount = t.occupied
        ∧ t.park.state = .open ∧ t.store.queue = s.store.queue)

/-- R56, R79, R80, R82 to R86, R100, R102, R103: step 1 of an accepted report. At a FREE slot no session is
written; an AUTHORISING session takes the reading and its stamp and bills nothing. For an authorised
session the delta since the last reading is billed up to the plausibility bound of the peak grant and the
time, and the rest is unbilled and raises METER_DISPUTE; the current segment, the flat fee and the state
follow; at the stop threshold a session that counts for power is STOPPING by HOLD. In every case the peak
grant is then reset. -/
def Obligations.ReadingsAreBilled : Prop :=
  ∀ (s : State) (p : Pedestal) (reading : Nat) (stamp : Word32),
    let t := s.takeReading p reading stamp
    let reset (u : State) : State := u.putEntry p { s.entry p with peak := (s.entry p).grant }
    (s.session p = none → t = reset s)
    ∧ ∀ x, s.session p = some x →
    (x.state = .authorising →
      t = reset (s.putSession p { x with lastReading := reading, lastStamp := stamp }))
    ∧ (x.state ≠ .authorising →
    let delta := (reading + 1000000000 - x.lastReading % 1000000000) % 1000000000
    let bound := (s.entry p).peak * 100 * (stamp - x.lastStamp).toNat * 5 / 14400000 + 20
    let energy := min delta bound
    let first := (match x.earlier with | g :: _ => g | [] => x.current)
    let begins := decide (x.billed = 0 ∧ 0 < energy)
    let current : Segment :=
      { x.current with
        billed := x.current.billed + energy
        raw := x.current.raw + energy * x.current.snapshot.rate }
    let y : Session :=
      { x with
        lastReading := reading, lastStamp := stamp, billed := x.billed + energy
        unbilled := (x.unbilled + (delta - energy)) % 1000000000000
        meterDispute := x.meterDispute || decide (bound < delta), current := current
        flatFee := if begins then first.snapshot.flatFee else x.flatFee
        state := if begins = true ∧ x.state = .ready then .delivering else x.state }
    let committed := ((x.earlier ++ [current]).map (·.raw)).sum / 1000000 + y.flatFee + x.overstayFee
    let stops := (x.state = .ready ∨ x.state = .delivering)
      ∧ x.hold.getD 0 - s.allot.parameters.holdReserve ≤ committed
    (stops → t.session p = some
        { y with
          state := .stopping, stopReason := some (x.stopReason.getD .hold)
          stopWindow := some 15000 }
      ∧ (cell t.pay.notices 2).pending = true ∧ (t.entry p).tracking = none)
    ∧ (¬ stops → t.session p = some y ∧ t.pay = s.pay
      ∧ t.entry p = { s.entry p with peak := (s.entry p).grant })
    ∧ (t.entry p).peak = (s.entry p).grant ∧ (t.entry p).grant = (s.entry p).grant
    ∧ (bound < delta → (cell t.site.notices 6).pending = true)
    ∧ (delta ≤ bound → t.site = s.site)
    ∧ (∀ q, q ≠ p → t.slot q = s.slot q ∧ t.entry q = s.entry q)
    ∧ t.store = s.store ∧ t.time = s.time ∧ t.loop = s.loop ∧ t.park = s.park)

/-- R6 to R8, R14 to R19, R23, R127: what an accepted report's state and flags do, by the slot's state. At
a FREE slot: IDLE clears both flags; PLUGGED with the refused flag set changes nothing, and without it
opens a session when every condition of R6 holds, else sets the unavailable flag; an opening, or one
refused with no number available, that leaves fewer than 16 numbers queues a reservation write of 64 more
unless one waits or is in flight. A session that leaves READY or DELIVERING for STOPPING or PARKED ends its
draw tracking (R61), and HOLD raises HOLD_STOP; but for these and the session itself nothing changes. (That
a refused opening makes this test whatever other condition fails:
notes/assumptions/15.md; that a revival leaves parked-by as it was: notes/assumptions/14.md.) -/
def Obligations.ReportsMoveSessions : Prop :=
  (∀ (s : State) (p : Pedestal) (r : Report) (stamp : Word32), s.session p = none →
    let t := s.applyReport p r stamp
    let a := s.account
    let opens : Prop := s.park.state = .open ∧ s.store.queue.length < 32
      ∧ a.nextNumber < a.reservationLimit ∧ (s.entry p).cfg.present = true
      ∧ (cell a.rows (cell a.bindings p)).valid = true ∧ a.nextClose + s.occupied ≤ 4294967295
    let reserving : Prop := (∃ l, .reservation l ∈ s.store.firstClass)
      ∨ ∃ l left, s.store.flight = some { op := .reservation l, left := left }
    let renewed (u : State) : State := { u with store := { s.store with
      firstClass := s.store.firstClass ++ [.reservation (min (a.reservationLimit + 64) 4294967296)] } }
    (r.state = .idle → t = s.putSlot p { s.slot p with refused := false, unavailable := false })
    ∧ (r.state ≠ .idle → r.state ≠ .plugged → t = s)
    ∧ (r.state = .plugged → (s.slot p).refused = true → t = s)
    ∧ (r.state = .plugged → (s.slot p).refused = false →
      (¬ opens →
        let refused := s.putSlot p { s.slot p with unavailable := true }
        (a.reservationLimit ≤ a.nextNumber → ¬ reserving → t = renewed refused)
        ∧ (a.nextNumber < a.reservationLimit ∨ reserving → t = refused))
      ∧ (opens → (∃ x, t.session p = some x ∧ x.number = a.nextNumber ∧ x.state = .authorising)
        ∧ t.account.nextNumber = a.nextNumber + 1
        ∧ (a.reservationLimit < a.nextNumber + 17 → ¬ reserving → t.store = (renewed s).store)
        ∧ (a.nextNumber + 17 ≤ a.reservationLimit ∨ reserving → t.store = s.store))))
  ∧ ∀ (s : State) (p : Pedestal) (x : Session) (r : Report) (stamp : Word32), s.session p = some x →
    let t := s.applyReport p r stamp
    let untracked : AllotEntry := if (s.entry p).tracking = none then s.entry p
      else { s.entry p with tracking := none, runCount := 0 }
    let stopped (reason : StopReason) : State := (s.putSession p
      { x with
        state := .stopping, stopReason := some (x.stopReason.getD reason)
        stopWindow := some 15000 }).putEntry p untracked
    let stopping (reason : StopReason) : Prop := t = stopped reason
    let parked (by_ : ParkedBy) : Prop := t = (s.putSession p
      { x with state := .parked, parkedBy := some by_, stopWindow := none }).putEntry p untracked
    (x.state = .authorising → (r.state = .idle → t = s.void p false) ∧ (r.state ≠ .idle → t = s))
    ∧ (x.state = .ready ∨ x.state = .delivering →
      (r.state = .idle → t = s.close p .unplugged false)
      ∧ (r.state ≠ .idle →
        (r.emergency = true → stopping .emergency)
        ∧ (r.emergency = false → r.state = .fault → stopping .pedestalFault)
        ∧ (r.emergency = false → r.state ≠ .fault → r.stopPressed = true → stopping .customerStop)
        ∧ (r.emergency = false → r.stopPressed = false → r.state = .complete → parked .complete)
        ∧ (r.emergency = false → r.stopPressed = false → r.state = .plugged ∨ r.state = .charging →
          t = s)))
    ∧ (x.state = .stopping →
      (r.state = .idle → t = s.close p (StopReason.close (x.stopReason.getD .hold)) false)
      ∧ (r.state = .charging → t = s)
      ∧ (r.state ≠ .idle → r.state ≠ .charging → (r.draw = 0 → parked .stop) ∧ (r.draw ≠ 0 → t = s)))
    ∧ (x.state = .parked →
      (r.state = .idle → t = s.close p
        (match x.stopReason with | some c => StopReason.close c | none => .unplugged) false)
      ∧ (r.state ≠ .idle → x.parkedBy ≠ some .complete → t = s)
      ∧ (r.state ≠ .idle → x.parkedBy = some .complete →
        (∀ c, r.stopCause = some c → t = s.putSession p
          { x with stopReason := some (x.stopReason.getD c), parkedBy := some .stop })
        ∧ (r.stopCause = none →
          (r.state ≠ .charging → t = s)
          ∧ (r.state = .charging → s.allot.parameters.holdReserve + x.committed < x.hold.getD 0 →
            t = s.putSession p { x with state := if 0 < x.billed then .delivering else .ready })
          ∧ (r.state = .charging → x.hold.getD 0 ≤ s.allot.parameters.holdReserve + x.committed →
            t = { stopped .hold with pay := { s.pay with
              notices := putCell s.pay.notices 2 { cell s.pay.notices 2 with pending := true } } }))))

/-- R3, R29, R58 to R61, R137, R140, R142, R143: an accepted answer, on a link in any state, is counted
and stored, then treated in three steps, the reading, the report and the draw, before the single recompute
and the next exchange. The recompute is made exactly where the stored request changed, the session entered
or left READY and DELIVERING, the link state changed, or draw tracking began, ended or lowered its cap.
With tracking off, a draw below the grant less the slack counts one report toward the three that turn
tracking on, and any other report ends the run; with tracking on, a draw near the grant ends it, and a
lower one lowers the cap. (That a lowering gives max(D + slack, m) also where m has been raised above the
cap is the model's reading: notes/assumptions/28.md.) -/
def Obligations.DrawTrackingFollowsItsTests : Prop :=
  ∀ (s : State) (p : Pedestal),
    (∀ (x : Exchange) (rx : List LoopChar) (frame : List Byte) (r : Report),
      s.resetAsserted = false → s.loop.exchange = some x → x.pedestal = p →
      answerFrame rx = some frame → reportOf frame p (s.entry p).cfg.cap = some r →
      let now := s.time.ms
      let old := s.loopEntry p
      let h := old.health - 1
      let new : LoopEntry :=
        if old.link ≠ .lost then
          { health := h, recovery := 0, latest := some r, latestStamp := some now
            link := if h < 64 then .good else if h < 128 then .doubtful else .lost }
        else if old.recovery < 7 then
          { old with recovery := old.recovery + 1, latest := some r, latestStamp := some now }
        else { health := 0, link := .good, recovery := 0, latest := some r, latestStamp := some now }
      let put := s.putLoopEntry p new
      let held : State :=
        if new.link = old.link then put
        else match s.session p with
          | none => put.raiseSite .linkChange
          | some y => (put.raiseSite .linkChange).putSession p
            { y with linkLossTimer := if new.link = .lost then
                if y.state = .authorising then y.linkLossTimer else some 60000
              else none }
      let moved := (held.takeReading p r.reading now).applyReport p r now
      let t := moved.trackDraw p r.draw
      let counts (u : State) : Prop :=
        ∃ y, u.session p = some y ∧ (y.state = .ready ∨ y.state = .delivering)
      let cause : Prop :=
        (match old.latest with | some q => q.request | none => 0) ≠ r.request
        ∨ ¬ (counts s ↔ counts t) ∨ new.link ≠ old.link
        ∨ (s.entry p).tracking ≠ (t.entry p).tracking
        ∨ ∃ c, (moved.entry p).tracking = some c ∧ r.draw + s.allot.parameters.slack < c
          ∧ r.draw + s.allot.parameters.slack / 2 < (moved.entry p).grant
      (cause → exec (.answerFrameReceived rx) s = .next
        (t.recompute.beginExchange (p.val + 1)).finish)
      ∧ (¬ cause → exec (.answerFrameReceived rx) s = .next
        (t.beginExchange (p.val + 1)).finish))
    ∧ ∀ draw : Nat,
      let q := s.allot.parameters
      let e := s.entry p
      let t := s.trackDraw p draw
      let counts : Prop := q.trackingOn = true
        ∧ (∃ x, s.session p = some x ∧ x.state = .delivering) ∧ draw + q.slack < e.grant
      (e.tracking = none →
        (¬ counts → t = s.putEntry p { e with runCount := 0 })
        ∧ (counts → e.runCount < 2 → t = s.putEntry p { e with runCount := e.runCount + 1 })
        ∧ (counts → 2 ≤ e.runCount → t = s.putEntry p
          { e with tracking := some (max (draw + q.slack) q.minGrant), runCount := 0 }))
      ∧ ∀ c, e.tracking = some c →
        (e.grant ≤ draw + q.slack / 2 →
          t = s.putEntry p { e with tracking := none, runCount := 0 })
        ∧ (draw + q.slack / 2 < e.grant →
          (draw + q.slack < c → t = s.putEntry p
            { e with tracking := some (max (draw + q.slack) q.minGrant) })
          ∧ (c ≤ draw + q.slack → t = s))

/-! ### The allotment -/

/-- R30 to R39, R48 to R50, R56: one recompute: the effective demand by its tests and minima; the
effective ceilings; for listed sessions with numbers of their own, admission of each whose base fits with
the bases admitted before it, by class and then by number, in the site and in its feeder; the headroom
shared class by class in the rounds of R37; the targets within the demands and the ceilings; the grant
rules for a target at or below the grant, for HARD and for SOFT; and nothing else of the machine
changes. -/
def Obligations.RecomputeFollowsItsStages : Prop :=
  ∀ s : State,
    let t := s.recompute
    let q := s.allot.parameters
    t = { s with allot := { t.allot with siteCeiling := s.allot.siteCeiling, parameters := q } }
    ∧ (∀ f, t.feeder f =
        { s.feeder f with effective := (s.feeder f).cfg.ceiling * (s.feeder f).applied / 1000 })
    ∧ (∀ f, t.feederTargets f ≤ (t.feeder f).effective) ∧ t.siteTargets ≤ s.allot.siteCeiling
    ∧ (∀ p,
      let old := s.entry p
      let new := t.entry p
      let link := (s.loopEntry p).link
      let asked := min (min (s.loopEntry p).request old.cfg.cap)
        (old.tracking.getD (min (s.loopEntry p).request old.cfg.cap))
      (new.cfg = old.cfg ∧ new.tracking = old.tracking ∧ new.runCount = old.runCount)
      ∧ (old.cfg.present = false ∨ s.countsForPower p = false ∨ link = .lost → new.demand = 0)
      ∧ (old.cfg.present = true → s.countsForPower p = true →
        (link = .good → new.demand = asked) ∧ (link = .doubtful → new.demand = min asked old.grant))
      ∧ (new.admitted = false → new.target = 0)
      ∧ (new.admitted = true → 0 < new.demand ∧ min new.demand q.minGrant ≤ new.target
        ∧ new.target ≤ new.demand)
      ∧ new.peak = max old.peak new.grant
      ∧ (new.target ≤ old.grant → new.grant = new.target ∧ new.rampTimer = none)
      ∧ (old.grant < new.target → old.cfg.rampMode = .hard →
        new.grant = new.target ∧ new.rampTimer = none)
      ∧ (old.grant < new.target → old.cfg.rampMode = .soft →
        new.grant = max old.grant (min new.target q.minGrant)
        ∧ (new.grant = new.target → new.rampTimer = none)
        ∧ (new.grant < new.target →
          new.rampTimer = some (old.rampTimer.getD (q.stepInterval * 200)))))
    ∧ ((∀ o p, 0 < (t.entry o).demand → 0 < (t.entry p).demand →
        s.sessionNumber o = s.sessionNumber p → o = p) →
      let demand (p : Pedestal) : Nat := (t.entry p).demand
      let home (p : Pedestal) : Feeder := (s.entry p).cfg.feeder
      let base (p : Pedestal) : Nat := min (demand p) q.minGrant
      let admitted (p : Pedestal) : Bool := (t.entry p).admitted
      let earlier (o p : Pedestal) : Bool := decide ((s.entry o).cfg.cls < (s.entry p).cfg.cls
        ∨ (s.entry o).cfg.cls = (s.entry p).cfg.cls ∧ s.sessionNumber o < s.sessionNumber p)
      let taken (among : Pedestal → Bool) : Nat :=
        (pedestals.map fun o => if admitted o && among o then base o else 0).sum
      (∀ p, 0 < demand p →
        (admitted p = true ↔
          taken (fun o => earlier o p) + base p ≤ s.allot.siteCeiling
          ∧ taken (fun o => earlier o p && decide (home o = home p)) + base p
            ≤ (t.feeder (home p)).effective))
      ∧ ∃ (list : List Pedestal) (x : Nat → Headroom),
        list.Pairwise (fun o p => earlier o p = true) ∧ (∀ p, p ∈ list ↔ admitted p = true)
        ∧ (x 0).site = s.allot.siteCeiling - taken (fun _ => true)
        ∧ (∀ f, (x 0).feeder f = (t.feeder f).effective - taken fun o => decide (home o = f))
        ∧ (x 0).share = base
        ∧ (∀ c : Fin 4, ClassServed demand home
          (list.filter fun p => decide ((s.entry p).cfg.cls = c)) (x c.val) (x (c.val + 1)))
        ∧ ∀ p, admitted p = true → (t.entry p).target = (x 4).share p)

/-! ### Measurement -/

/-- R65, R67, R69 to R73: a temperature code replaces its channel's latest code, and from the end of the
restore on is evaluated: a disabled sensor leaves the factor at 1000; an out-of-range code is a sensor
fault and applies the floor; an in-range one gives a temperature and a computed factor, which is applied
when it is the first, differs by 10 or more, or is 1000 or the floor. A changed applied factor raises
DERATE_CHANGE and recomputes. (The model's choices: the scan slot after the conversion,
notes/assumptions/7.md; that codes are only held whenever the configuration has not been restored, also in
a POWER_FAIL entered before the restore, notes/assumptions/21.md; that R71's band holds also where R76 has
two orders of a completion and a SET FEEDER agree, notes/assumptions/32.md.) -/
def Obligations.TemperatureCodesDerate : Prop :=
  ∀ (s : State) (f : Feeder) (code : BitVec 12), s.resetAsserted = false →
    let old := s.feeder f
    let held : State :=
      { s with meas := { s.meas with
          scanSlot := Fin.ofNat 8 (2 * Feeder.code f + 1)
          latest := putCell s.meas.latest (Feeder.idx f) (some code) } }
    let celsius : Int := ((code.toNat * 1500 / 4096 : Nat) : Int) - 300
    let ok := 16 ≤ code.toNat ∧ code.toNat ≤ 4079
    let span := (old.cfg.thigh - old.cfg.tlow).toNat
    let factor :=
      if celsius ≤ old.cfg.tlow then 1000
      else if old.cfg.thigh ≤ celsius then old.cfg.floor
      else 1000 - ((1000 - old.cfg.floor) * (celsius - old.cfg.tlow).toNat + span - 1) / span
    let applies := old.firstMark = true
      ∨ 10 ≤ max factor old.applied - min factor old.applied ∨ factor = 1000
      ∨ factor = old.cfg.floor
    let after (new : FeederEntry) : State :=
      if new.applied = old.applied then held.putFeeder f new
      else ((held.putFeeder f new).raiseSite .derateChange).recompute
    (s.park.restored = false → exec (.temperatureCompletion f code) s = .next held.finish)
    ∧ (s.park.restored = true →
      (old.cfg.sensorEnabled = false → exec (.temperatureCompletion f code) s = .next
        (after { old with
          latestTemp := if ok then some celsius else none
          computed := none, sensorFault := false, applied := 1000 }).finish)
      ∧ (old.cfg.sensorEnabled = true → ¬ ok → exec (.temperatureCompletion f code) s = .next
        (after { old with
          latestTemp := none, computed := none, sensorFault := true, firstMark := true
          applied := old.cfg.floor }).finish)
      ∧ (old.cfg.sensorEnabled = true → ok → exec (.temperatureCompletion f code) s = .next
        (after { old with
          latestTemp := some celsius, computed := some factor, sensorFault := false
          firstMark := false, applied := if applies then factor else old.applied }).finish))

/-- R24, R66, R181 to R183: a supply code below 2800 raises the below count and clears the above count, any
other the reverse, each up to 255. A below count of 2 outside POWER_FAIL enters it: every authorised
session closes with reason POWER_FAIL, in ascending pedestal order with consecutive close sequences, every
AUTHORISING one is voided, no session is left open, and all targets and grants are 0.
In POWER_FAIL an above count of 20 or more with the store drained restarts the machine. (R8: each of
these closes sets the refused flag, notes/assumptions/16.md; R24: each void leaves it. The scan slot is the
model's choice: notes/assumptions/7.md.) -/
def Obligations.SupplyFailsAndRestarts : Prop :=
  ∀ (s : State) (code : BitVec 12), s.resetAsserted = false →
    let low := decide (code.toNat < 2800)
    let below := if low then min (s.meas.belowRun + 1) 255 else 0
    let above := if low then 0 else min (s.meas.aboveRun + 1) 255
    let counted : State :=
      { s with meas := { s.meas with
          scanSlot := Fin.ofNat 8 (s.meas.scanSlot.val + if s.meas.scanSlot.val % 2 = 0 then 2 else 1)
          belowRun := below, aboveRun := above } }
    let drained := s.store.firstClass = [] ∧ s.store.secondClass = [] ∧ s.store.flight = none
    (s.park.state ≠ .powerFail → below ≠ 2 →
      exec (.supplyCompletion code) s = .next counted.finish)
    ∧ (s.park.state ≠ .powerFail → below = 2 → ∃ t, exec (.supplyCompletion code) s = .next t
      ∧ t.park.state = .powerFail ∧ t.park.startStep = none
      ∧ (cell t.site.notices 5).pending = true ∧ t.meas = counted.meas ∧ t.time = s.time
      ∧ t.loop = s.loop
      ∧ (∀ p, t.session p = none ∧ (t.entry p).target = 0 ∧ (t.entry p).grant = 0
        ∧ (t.entry p).rampTimer = none)
      ∧ (∀ p, s.session p = none → t.slot p = s.slot p)
      ∧ (∀ p x, s.session p = some x → x.state = .authorising →
        t.slot p = { s.slot p with session := none, lastEnded := x.number } ∧
        p ∉ t.account.authQueue)
      ∧ (∀ p x, s.session p = some x → x.state ≠ .authorising →
        t.slot p = { s.slot p with session := none, refused := true, lastEnded := x.number }
        ∧ ∃ e ∈ t.store.queue, ∃ rec, e.body = .built rec ∧ rec.pedestal = p
          ∧ rec.session = x.number ∧ rec.closeReason = .powerFail)
      ∧ (s.park.openCount = s.occupied → t.park.openCount = 0)
      ∧ (let closed : List (Pedestal × Session) := pedestals.filterMap fun p =>
          (s.session p).bind fun x => if x.state = .authorising then none else some (p, x)
        t.account.nextClose = s.account.nextClose + closed.length
        ∧ ((∀ e ∈ s.store.queue, e.closeSequence < s.account.nextClose) →
          ∃ added : List QueueEntry, t.store.queue = s.store.queue ++ added
            ∧ added.length = closed.length
            ∧ ∀ (k : Nat) (p : Pedestal) (x : Session), closed[k]? = some (p, x) →
              ∃ e rec, added[k]? = some e ∧ e.body = .built rec ∧ rec.pedestal = p
                ∧ e.session = x.number ∧ e.closeSequence = s.account.nextClose + k)))
    ∧ (s.park.state = .powerFail → (20 ≤ above → ¬ drained) →
      exec (.supplyCompletion code) s = .next counted.finish)
    ∧ (s.park.state = .powerFail → 20 ≤ above → drained →
      exec (.supplyCompletion code) s = .next
        (State.afterReset s.store.array s.addrPin s.pending).finish)

/-! ### The store -/

/-- R116 to R118: the end of a record write's attempt. A pass leaves the record in its slot, which is
HELD, and the record PRESENTABLE. A failed verify or a failed merged erase makes the slot BAD; the first
failure claims the lowest FREE slot, or with none the lowest MARKED slot, whose erase leaves the work list
and begins the retry, and retries there at once; with no slot to claim, or on the retry, the record is
PRESENTABLE with NOT_DURABLE set and STORE_FAULT is raised on both ports. (The moment of the end:
notes/assumptions/2.md; one command for each attempt: notes/assumptions/20.md; the record is the one
nearest the head of its close sequence: notes/assumptions/29.md.) -/
def Obligations.RecordWritesEnd : Prop :=
  ∀ (s : State) (n left : Nat) (i : RecordSlot) (eraseFirst retry : Bool) (e : QueueEntry)
    (before after : List QueueEntry),
    s.resetAsserted = false → s.store.queue = before ++ e :: after → e.closeSequence = n →
    (∀ y ∈ before, y.closeSequence ≠ n) →
    s.store.flight =
      some { op := .recordWrite n i eraseFirst retry, left := left } →
    let array (c : SlotCells) : NvArray :=
      { s.store.array with slots := putCell s.store.array.slots i c }
    (let u := State.advance left s
      let body : Body := match e.body with
        | .built r => .record r
        | .asRead image => .damaged image
      exec (.recordWriteEnd .pass) s = .next
        ({ u with store := { s.store with
            array := array { header := .valid e.session e.closeSequence, body := body,
                             markBlank := true, singles := 0 }
            slotStates := putCell s.store.slotStates i .held
            queue := before ++ { e with state := .presentable, eraseFirst := false } :: after
            flight := none } } : State).finish)
    ∧ ∀ (v : WriteVerify) (held : SlotCells) (passed : Nat),
      ((∃ c takes, v = .fail c takes ∧ passed = left + 1
          ∧ held = if takes then { c with markBlank := false } else c)
        ∨ eraseFirst = true ∧ v = .eraseFail held ∧ passed = left - 6) →
      let u := State.advance passed s
      (retry = false →
        let claims (j : RecordSlot) (marked : Bool) : Prop := exec (.recordWriteEnd v) s = .next
          ({ u with store := { s.store with
              array := array held
              slotStates := putCell (putCell s.store.slotStates i .bad) j .writing
              queue := before ++ { e with slot := some j, eraseFirst := marked } :: after
              secondClass := s.store.secondClass.filter fun w => decide (w ≠ .erase j)
              flight := some { op := .recordWrite n j marked true,
                               left := if marked then 10 else 6 } } } : State).finish
        (∀ j : RecordSlot, j ≠ i → s.slotState j = .free →
          (∀ k, k < j → k ≠ i → s.slotState k ≠ .free) → claims j false)
        ∧ ∀ j : RecordSlot, (∀ k, k ≠ i → s.slotState k ≠ .free) → j ≠ i →
          s.slotState j = .marked → (∀ k, k < j → k ≠ i → s.slotState k ≠ .marked) →
          claims j true)
      ∧ (retry = true ∨ (∀ k, k ≠ i → s.slotState k ≠ .free ∧ s.slotState k ≠ .marked) →
        exec (.recordWriteEnd v) s = .next
          (({ u with store := { s.store with
              array := array held
              slotStates := putCell s.store.slotStates i .bad
              queue := before ++ { e with
                state := .presentable, notDurable := true, slot := none, eraseFirst := false } :: after
              flight := none } } : State).raiseStoreFault).finish)

/-- R116, R121, R122: the ends of a settled mark and of an erase. A mark that passes leaves its slot
MARKED, takes the record off the queue, queues the slot's erase and answers SETTLE with DONE; one that
fails leaves the slot BAD and the record PRESENTABLE with NOT_DURABLE set, and answers FAULT. An erase
that passes leaves the slot blank, and FREE, or WRITING for the record that claimed it; one that fails
leaves it BAD, and the record that had claimed it claims again: the lowest FREE slot, or with none the
lowest MARKED one, its write item keeping its place, or with neither it is PRESENTABLE with NOT_DURABLE
set and its write leaves the work list. A failure raises STORE_FAULT on both ports. (The moment of each
end: notes/assumptions/2.md; the record is the one nearest the head of its close sequence:
notes/assumptions/29.md.) -/
def Obligations.MarksAndErasesEnd : Prop :=
  ∀ (s : State) (n left : Nat) (i : RecordSlot), s.resetAsserted = false →
    let u := State.advance left s
    let array (c : SlotCells) : NvArray :=
      { s.store.array with slots := putCell s.store.array.slots i c }
    (∀ (e : QueueEntry) (before after : List QueueEntry) (unread : Bool),
      s.store.queue = before ++ e :: after → e.closeSequence = n →
      (∀ y ∈ before, y.closeSequence ≠ n) → s.pay.state = .working unread →
      s.store.flight = some { op := .settledMark n i, left := left } →
      let replied (t : State) (o : OutcomeCode) : State :=
        { t with pay := { t.pay with
            dropped := false
            state := .replyReady (replyFrame 0x08 unread s.pay.dropped s.park.state
              { outcome := o, body := bytesOf 4 e.session }) } }
      exec (.settledMarkEnd .pass) s = .next
        (replied { u with store := { s.store with
            array := array { s.slotCells i with markBlank := false }
            slotStates := putCell s.store.slotStates i .marked
            queue := before ++ after
            secondClass := s.store.secondClass ++ [.erase i]
            flight := none } } .done).finish
      ∧ ∀ blank, exec (.settledMarkEnd (.fail blank)) s = .next
        (replied (({ u with store := { s.store with
            array := array { s.slotCells i with markBlank := blank }
            slotStates := putCell s.store.slotStates i .bad
            queue := before ++ { e with
              state := .presentable, notDurable := true, slot := none } :: after
            flight := none } } : State).raiseStoreFault) .fault).finish)
    ∧ (s.store.flight = some { op := .erase i, left := left } →
      (∀ now : SlotState,
        ((∃ e ∈ s.store.queue, e.state = .writing ∧ e.slot = some i) → now = .writing) →
        ((∀ e ∈ s.store.queue, e.state = .writing → e.slot ≠ some i) → now = .free) →
        exec (.eraseEnd .pass) s = .next
          ({ u with store := { s.store with
              array := array { header := .blank, body := .blank, markBlank := true, singles := 0 }
              slotStates := putCell s.store.slotStates i now
              flight := none } } : State).finish)
      ∧ ∀ cells,
        let bad : State := { u with store := { s.store with
          array := array cells, slotStates := putCell s.store.slotStates i .bad, flight := none } }
        ((∀ e ∈ s.store.queue, e.state = .writing → e.slot ≠ some i) →
          exec (.eraseEnd (.fail cells)) s = .next bad.raiseStoreFault.finish)
        ∧ ∀ (e : QueueEntry) (before after : List QueueEntry),
          s.store.queue = before ++ e :: after → e.state = .writing → e.slot = some i →
          (∀ y ∈ before, y.closeSequence ≠ e.closeSequence ∧ (y.state = .writing → y.slot ≠ some i)) →
          let claims (j : RecordSlot) (marked : Bool) : Prop :=
            exec (.eraseEnd (.fail cells)) s = .next
              (({ bad with store := { bad.store with
                  slotStates := putCell bad.store.slotStates j .writing
                  queue := before ++ { e with slot := some j, eraseFirst := marked } :: after
                  secondClass := s.store.secondClass.filter fun w => decide (w ≠ .erase j) } } :
                State).raiseStoreFault).finish
          (∀ j : RecordSlot, j ≠ i → s.slotState j = .free →
            (∀ k, k < j → k ≠ i → s.slotState k ≠ .free) → claims j false)
          ∧ ((∀ k, k ≠ i → s.slotState k ≠ .free) →
            (∀ j : RecordSlot, j ≠ i → s.slotState j = .marked →
              (∀ k, k < j → k ≠ i → s.slotState k ≠ .marked) → claims j true)
            ∧ ((∀ k, k ≠ i → s.slotState k ≠ .marked) → exec (.eraseEnd (.fail cells)) s = .next
              (({ bad with store := { bad.store with
                  queue := before ++ { e with
                    state := .presentable, notDurable := true, slot := none
                    eraseFirst := false } :: after
                  firstClass := s.store.firstClass.filter fun w =>
                    decide (w ≠ .recordWrite e.closeSequence) } } :
                State).raiseStoreFault).finish)))

/-- R127, R128, R173: the ends of a reservation write and of a settings save. A reservation that passes
makes its value the limit; a failed one leaves the limit. A save answers the waiting SAVE SETTINGS with
DONE or FAULT. A failure raises STORE_FAULT on both ports. (The moment of each end:
notes/assumptions/2.md.) -/
def Obligations.ReservationsAndSavesEnd : Prop :=
  ∀ (s : State) (left : Nat), s.resetAsserted = false →
    let u := State.advance left s
    (∀ l, s.store.flight = some { op := .reservation l, left := left } →
      exec (.reservationWriteEnd .pass) s = .next
        ({ u with
            account := { u.account with reservationLimit := l }
            store := { s.store with
              array := { s.store.array with counter := { contents := .good l, singles := 0 } }
              flight := none } } : State).finish
      ∧ ∀ area, exec (.reservationWriteEnd (.fail area)) s = .next
        (({ u with store := { s.store with
            array := { s.store.array with counter := area }
            flight := none } } : State).raiseStoreFault).finish)
    ∧ ∀ c unread, s.store.flight = some { op := .save c, left := left } →
      s.site.state = .working unread →
      let replied (t : State) (o : OutcomeCode) : State :=
        { t with site := { t.site with
            dropped := false
            state := .replyReady (replyFrame 0x2D unread s.site.dropped s.park.state
              { outcome := o, body := [] }) } }
      exec (.settingsSaveEnd .pass) s = .next
        (replied { u with store := { s.store with
            array := { s.store.array with settings := { contents := .good c, singles := 0 } }
            flight := none } } .done).finish
      ∧ ∀ area, exec (.settingsSaveEnd (.fail area)) s = .next
        (replied (({ u with store := { s.store with
            array := { s.store.array with settings := area }
            flight := none } } : State).raiseStoreFault) .fault).finish

/-! ### Resets and start-up -/

/-- R113, R117, R121, R122, R127, R128, R183, R184: RESET_N low cuts the operation in flight, whose place
in the array alone can change, discards the work list, ends the exchange and the read window, makes the
pins inactive, sends nothing on PAY_DO and acknowledges no address; when it rises every volatile item takes
its reset value, and the array, the strap and the waiting commands are as they were. What a cut write,
mark, erase, reservation or save leaves is one of the readings of its rule, which the command's cut point
names. (The model's readings: while RESET_N is low no other command acts and the volatile registers keep
their values, notes/assumptions/6.md; the seven cut points, and a cut settings area or counter cell that
reads as uncorrectable, notes/assumptions/8.md.) -/
def Obligations.ResetCutsAndRestarts : Prop :=
  ∀ s : State,
    exec .hardwareResetEnd s = .next (State.afterReset s.store.array s.addrPin s.pending)
    ∧ (s.resetAsserted = true → ∀ c : Instr, c ≠ .hardwareResetEnd → exec c s = .next s)
    ∧ (s.resetAsserted = false → ∀ cut, ∃ a : NvArray,
      exec (.hardwareResetAssert cut) s = .next
        { s with
          store := { s.store with array := a, firstClass := [], secondClass := [], flight := none }
          loop := { s.loop with exchange := none, nextRound := none, driverEnable := false }
          pay := { s.pay with window := none, payDo := [], rdy := false, atn := false }
          site := { s.site with siteRead := none, atn := false }
          resetAsserted := true }
      ∧ (s.store.flight = none ∨ cut = .untouched → a = s.store.array)
      ∧ ∀ left,
        let was := s.slotCells
        let only (i : RecordSlot) (c : SlotCells) : Prop :=
          a = { s.store.array with slots := putCell s.store.array.slots i c }
        let garbled : Prop := cut = .headerPart ∨ cut = .garbled
        (∀ n i eraseFirst retry,
          s.store.flight = some { op := .recordWrite n i eraseFirst retry, left := left } →
          (s.queued n = none → a = s.store.array)
          ∧ ∀ e, s.queued n = some e →
          let body : Body := match e.body with
            | .built r => .record r
            | .asRead image => .damaged image
          let new (h : Header) : SlotCells :=
            { header := h, body := body, markBlank := true, singles := 0 }
          (garbled → only i (new .invalid)) ∧ (cut = .headerBlank → only i (new .blank))
          ∧ (cut = .complete → only i (new (.valid e.session e.closeSequence)))
          ∧ (cut = .marked → only i { was i with markBlank := false })
          ∧ (cut = .allBlank →
            only i { header := .blank, body := .blank, markBlank := true, singles := 0 }))
        ∧ (∀ n i, s.store.flight = some { op := .settledMark n i, left := left } →
          cut ≠ .untouched → only i { was i with markBlank := false })
        ∧ (∀ i, s.store.flight = some { op := .erase i, left := left } →
          (garbled → only i { was i with header := .invalid })
          ∧ (cut = .headerBlank → only i { was i with header := .blank })
          ∧ (cut = .marked → only i
            { was i with header := .blank, body := .blank, markBlank := false })
          ∧ (cut = .allBlank ∨ cut = .complete →
            only i { header := .blank, body := .blank, markBlank := true, singles := 0 }))
        ∧ (∀ l, s.store.flight = some { op := .reservation l, left := left } → cut ≠ .untouched →
          a = { s.store.array with counter :=
            { contents := if cut = .complete then .good l else .bad, singles := 0 } })
        ∧ (∀ c, s.store.flight = some { op := .save c, left := left } → cut ≠ .untouched →
          a = { s.store.array with settings :=
            { contents := if cut = .complete then .good c else .bad, singles := 0 } }))

/-- R69, R111, R124 to R129, R177: start-up. The restore loads the settings, or the defaults with
SETTINGS_LOST, and the counter cell's value, or 1 with SETTINGS_LOST, each feeder's held temperature code is
evaluated (R69) with DERATE_CHANGE for a changed factor, the Engine recomputes, and the scan begins. The scan gives each slot the state of Table 7.3: one with a valid header, a blank mark area and a
body that is not blank is HELD, and its record is PRESENTABLE in the queue with the body's contents, the
header's numbers, and CORRUPT where the body is damaged, unless another slot carries a better copy of the
session; a blank slot is FREE, and every other one MARKED, to be erased. The queue is in ascending close
sequence and holds nothing else; the close-sequence counter is past every record's; the first reservation
starts; the park opens, or quiesces by its option; round 0 begins. (The model's readings: round 0 begins in
this event, notes/assumptions/17.md; a valid header over a blank body is MARKED, and of several copies the
best is kept, notes/assumptions/23.md; equal close sequences stand by slot, notes/assumptions/29.md;
corrected errors are counted at the end of a step, notes/assumptions/30.md; the exchange has at most 2 ms
left, notes/assumptions/9.md.) -/
def Obligations.StartUpRestoresAndScans : Prop :=
  ∀ s : State, s.resetAsserted = false →
    (∀ reading, s.park.startStep = some .restore → ∃ t, exec (.restoreEnd reading) s = .next t
      ∧ (let settings := reading.settings.getD s.store.array.settings
        let counter := reading.counter.getD s.store.array.counter
        ∃ c : Settings,
          (settings.contents = .good c ∨ (∀ d, settings.contents ≠ .good d) ∧ c = Settings.default
            ∧ (cell t.site.notices 4).pending = true)
          ∧ (∀ p, (t.entry p).cfg = cell c.pedestals p)
          ∧ (∀ f, (t.feeder f).cfg = cell c.feeders (Feeder.idx f)
            ∧ (t.feeder f).effective = (t.feeder f).cfg.ceiling * (t.feeder f).applied / 1000)
          ∧ (∀ f,
            let cfg := cell c.feeders (Feeder.idx f)
            let loaded : FeederEntry :=
              { s.feeder f with cfg := cfg, effective := (t.feeder f).effective }
            (cell s.meas.latest (Feeder.idx f) = none → t.feeder f = loaded)
            ∧ ∀ code : BitVec 12, cell s.meas.latest (Feeder.idx f) = some code →
              let celsius : Int := ((code.toNat * 1500 / 4096 : Nat) : Int) - 300
              let ok := 16 ≤ code.toNat ∧ code.toNat ≤ 4079
              let span := (cfg.thigh - cfg.tlow).toNat
              let factor :=
                if celsius ≤ cfg.tlow then 1000
                else if cfg.thigh ≤ celsius then cfg.floor
                else 1000 - ((1000 - cfg.floor) * (celsius - cfg.tlow).toNat + span - 1) / span
              let applies := loaded.firstMark = true
                ∨ 10 ≤ max factor loaded.applied - min factor loaded.applied ∨ factor = 1000
                ∨ factor = cfg.floor
              (cfg.sensorEnabled = false → t.feeder f = { loaded with
                latestTemp := if ok then some celsius else none
                computed := none, sensorFault := false, applied := 1000 })
              ∧ (cfg.sensorEnabled = true → ¬ ok → t.feeder f = { loaded with
                latestTemp := none, computed := none, sensorFault := true, firstMark := true
                applied := cfg.floor })
              ∧ (cfg.sensorEnabled = true → ok → t.feeder f = { loaded with
                latestTemp := some celsius, computed := some factor, sensorFault := false
                firstMark := false, applied := if applies then factor else loaded.applied }))
          ∧ ((cell t.site.notices 1).pending = true ↔ (cell s.site.notices 1).pending = true
            ∨ ∃ f, (t.feeder f).applied ≠ (s.feeder f).applied)
          ∧ t.allot.siteCeiling = c.siteCeiling ∧ t.allot.parameters = c.parameters
          ∧ t.account.rows = c.rows ∧ t.account.bindings = c.bindings
          ∧ (∀ k, (cell t.pay.notices k).level = cell c.payLevels k)
          ∧ (∀ k, (cell t.site.notices k).level = cell c.siteLevels k)
          ∧ t.park = { s.park with
              startStep := some .scan, restored := true, startQuiesced := c.startQuiesced }
          ∧ t.account.nextNumber = t.account.reservationLimit
          ∧ (counter.contents = .good t.account.nextNumber ∨ (∀ l, counter.contents ≠ .good l)
            ∧ t.account.nextNumber = 1 ∧ (cell t.site.notices 4).pending = true)
          ∧ t.store.corrected = min (s.store.corrected + settings.singles + counter.singles) 65535
          ∧ t.store.array = { s.store.array with settings := settings, counter := counter }
          ∧ t.account.slots = s.account.slots ∧ t.time = s.time ∧ t.loop = s.loop
          ∧ t.meas = s.meas))
    ∧ (∀ aged, s.park.startStep = some .scan → s.store.firstClass = [] → s.store.secondClass = [] →
      s.store.flight = none → (aged.map (·.1)).Nodup → ∃ t, exec (.scanEnd aged) s = .next t
      ∧ (∀ i c, (i, c) ∈ aged → t.slotCells i = c)
      ∧ (∀ i, i ∉ aged.map (·.1) → t.slotCells i = s.slotCells i)
      ∧ t.store.array.settings = s.store.array.settings
      ∧ t.store.array.counter = s.store.array.counter
      ∧ t.store.corrected = min (s.store.corrected
        + (t.store.array.slots.toList.map (·.singles)).sum) 65535
      ∧ (let damaged (i : RecordSlot) : Prop := ∃ image, (t.slotCells i).body = .damaged image
        let copy (i : RecordSlot) (n c : Nat) : Prop := (t.slotCells i).header = .valid n c
          ∧ (t.slotCells i).markBlank = true ∧ (t.slotCells i).body ≠ .blank
        let kept (i : RecordSlot) (n : Nat) : Prop := ∀ j c, copy j n c → j ≠ i →
          ¬ damaged i ∧ damaged j ∨ (damaged i ↔ damaged j) ∧ i < j
        let rebuilt (e : QueueEntry) (i : RecordSlot) (n c : Nat) : Prop :=
          ∃ body : RecordBody,
            (∀ r, (t.slotCells i).body = .record r →
              body = .built { r with session := n, closeSequence := c })
            ∧ (∀ image, (t.slotCells i).body = .damaged image → body = .asRead image)
            ∧ ∃ corrupt : Bool, (corrupt = true ↔ damaged i)
            ∧ e = { session := n, closeSequence := c, body := body, state := .presentable,
                    notDurable := false, corrupt := corrupt, slot := some i, eraseFirst := false }
        (∀ i n c, copy i n c →
          (kept i n → t.slotState i = .held ∧ ∃ e ∈ t.store.queue, rebuilt e i n c)
          ∧ (¬ kept i n → t.slotState i = .marked))
        ∧ (∀ i, (∀ n c, ¬ copy i n c) →
          ((t.slotCells i).header = .blank ∧ (t.slotCells i).body = .blank
              ∧ (t.slotCells i).markBlank = true → t.slotState i = .free)
          ∧ (¬ ((t.slotCells i).header = .blank ∧ (t.slotCells i).body = .blank
              ∧ (t.slotCells i).markBlank = true) → t.slotState i = .marked))
        ∧ ∀ e ∈ t.store.queue, ∃ i n c, copy i n c ∧ kept i n ∧ rebuilt e i n c)
      ∧ t.store.queue.Pairwise (fun x y => x.closeSequence < y.closeSequence
        ∨ x.closeSequence = y.closeSequence
          ∧ ∃ i j, x.slot = some i ∧ y.slot = some j ∧ i < j)
      ∧ (∀ e ∈ t.store.queue, e.closeSequence < t.account.nextClose)
      ∧ (t.store.queue ≠ [] → ∃ e ∈ t.store.queue, t.account.nextClose = e.closeSequence + 1)
      ∧ (t.store.queue = [] → t.account.nextClose = 1)
      ∧ t.store.secondClass =
        ((List.finRange 48).filter fun i => decide (t.slotState i = .marked)).map .erase
      ∧ t.store.firstClass = [] ∧ t.store.flight = some
        { op := .reservation (min (s.account.reservationLimit + 64) 4294967296), left := 1 }
      ∧ t.park = { s.park with
          startStep := none, state := if s.park.startQuiesced then .quiesced else .open }
      ∧ (cell t.site.notices 5).pending = true
      ∧ t.loop.round = 0 ∧ t.loop.nextRound = some 100
      ∧ (∀ p, (s.entry p).cfg.present = true → (∀ q, q < p → (s.entry q).cfg.present = false) →
        t.loop.exchange = some { pedestal := p, left := 2 })
      ∧ t.account.slots = s.account.slots ∧ t.allot = s.allot ∧ t.time = s.time)
end

