-- ==== Sys2Proof/Laws/State.lean ====
section
/-! SUPPORT. What each named update leaves of the state: one lemma per field per update, true by
`rfl`, so that no later proof unfolds a record update. -/

namespace Sys2Proof.Machine
open Sys2Proof

/-! `State.putSlot` -/

@[simp] theorem State.putSlot_time (s : State) (p : Pedestal) (x : SessionSlot) :
    (s.putSlot p x).time = s.time := rfl
@[simp] theorem State.putSlot_park (s : State) (p : Pedestal) (x : SessionSlot) :
    (s.putSlot p x).park = s.park := rfl
@[simp] theorem State.putSlot_allot (s : State) (p : Pedestal) (x : SessionSlot) :
    (s.putSlot p x).allot = s.allot := rfl
@[simp] theorem State.putSlot_loop (s : State) (p : Pedestal) (x : SessionSlot) :
    (s.putSlot p x).loop = s.loop := rfl
@[simp] theorem State.putSlot_meas (s : State) (p : Pedestal) (x : SessionSlot) :
    (s.putSlot p x).meas = s.meas := rfl
@[simp] theorem State.putSlot_store (s : State) (p : Pedestal) (x : SessionSlot) :
    (s.putSlot p x).store = s.store := rfl
@[simp] theorem State.putSlot_pay (s : State) (p : Pedestal) (x : SessionSlot) :
    (s.putSlot p x).pay = s.pay := rfl
@[simp] theorem State.putSlot_site (s : State) (p : Pedestal) (x : SessionSlot) :
    (s.putSlot p x).site = s.site := rfl
@[simp] theorem State.putSlot_resetAsserted (s : State) (p : Pedestal) (x : SessionSlot) :
    (s.putSlot p x).resetAsserted = s.resetAsserted := rfl
@[simp] theorem State.putSlot_addrPin (s : State) (p : Pedestal) (x : SessionSlot) :
    (s.putSlot p x).addrPin = s.addrPin := rfl
@[simp] theorem State.putSlot_pending (s : State) (p : Pedestal) (x : SessionSlot) :
    (s.putSlot p x).pending = s.pending := rfl

/-! `State.putSession` -/

@[simp] theorem State.putSession_time (s : State) (p : Pedestal) (x : Session) :
    (s.putSession p x).time = s.time := rfl
@[simp] theorem State.putSession_park (s : State) (p : Pedestal) (x : Session) :
    (s.putSession p x).park = s.park := rfl
@[simp] theorem State.putSession_allot (s : State) (p : Pedestal) (x : Session) :
    (s.putSession p x).allot = s.allot := rfl
@[simp] theorem State.putSession_loop (s : State) (p : Pedestal) (x : Session) :
    (s.putSession p x).loop = s.loop := rfl
@[simp] theorem State.putSession_meas (s : State) (p : Pedestal) (x : Session) :
    (s.putSession p x).meas = s.meas := rfl
@[simp] theorem State.putSession_store (s : State) (p : Pedestal) (x : Session) :
    (s.putSession p x).store = s.store := rfl
@[simp] theorem State.putSession_pay (s : State) (p : Pedestal) (x : Session) :
    (s.putSession p x).pay = s.pay := rfl
@[simp] theorem State.putSession_site (s : State) (p : Pedestal) (x : Session) :
    (s.putSession p x).site = s.site := rfl
@[simp] theorem State.putSession_resetAsserted (s : State) (p : Pedestal) (x : Session) :
    (s.putSession p x).resetAsserted = s.resetAsserted := rfl
@[simp] theorem State.putSession_addrPin (s : State) (p : Pedestal) (x : Session) :
    (s.putSession p x).addrPin = s.addrPin := rfl
@[simp] theorem State.putSession_pending (s : State) (p : Pedestal) (x : Session) :
    (s.putSession p x).pending = s.pending := rfl

/-! `State.putEntry` -/

@[simp] theorem State.putEntry_time (s : State) (p : Pedestal) (e : AllotEntry) :
    (s.putEntry p e).time = s.time := rfl
@[simp] theorem State.putEntry_park (s : State) (p : Pedestal) (e : AllotEntry) :
    (s.putEntry p e).park = s.park := rfl
@[simp] theorem State.putEntry_account (s : State) (p : Pedestal) (e : AllotEntry) :
    (s.putEntry p e).account = s.account := rfl
@[simp] theorem State.putEntry_loop (s : State) (p : Pedestal) (e : AllotEntry) :
    (s.putEntry p e).loop = s.loop := rfl
@[simp] theorem State.putEntry_meas (s : State) (p : Pedestal) (e : AllotEntry) :
    (s.putEntry p e).meas = s.meas := rfl
@[simp] theorem State.putEntry_store (s : State) (p : Pedestal) (e : AllotEntry) :
    (s.putEntry p e).store = s.store := rfl
@[simp] theorem State.putEntry_pay (s : State) (p : Pedestal) (e : AllotEntry) :
    (s.putEntry p e).pay = s.pay := rfl
@[simp] theorem State.putEntry_site (s : State) (p : Pedestal) (e : AllotEntry) :
    (s.putEntry p e).site = s.site := rfl
@[simp] theorem State.putEntry_resetAsserted (s : State) (p : Pedestal) (e : AllotEntry) :
    (s.putEntry p e).resetAsserted = s.resetAsserted := rfl
@[simp] theorem State.putEntry_addrPin (s : State) (p : Pedestal) (e : AllotEntry) :
    (s.putEntry p e).addrPin = s.addrPin := rfl
@[simp] theorem State.putEntry_pending (s : State) (p : Pedestal) (e : AllotEntry) :
    (s.putEntry p e).pending = s.pending := rfl

/-! `State.putFeeder` -/

@[simp] theorem State.putFeeder_time (s : State) (f : Feeder) (e : FeederEntry) :
    (s.putFeeder f e).time = s.time := rfl
@[simp] theorem State.putFeeder_park (s : State) (f : Feeder) (e : FeederEntry) :
    (s.putFeeder f e).park = s.park := rfl
@[simp] theorem State.putFeeder_account (s : State) (f : Feeder) (e : FeederEntry) :
    (s.putFeeder f e).account = s.account := rfl
@[simp] theorem State.putFeeder_loop (s : State) (f : Feeder) (e : FeederEntry) :
    (s.putFeeder f e).loop = s.loop := rfl
@[simp] theorem State.putFeeder_meas (s : State) (f : Feeder) (e : FeederEntry) :
    (s.putFeeder f e).meas = s.meas := rfl
@[simp] theorem State.putFeeder_store (s : State) (f : Feeder) (e : FeederEntry) :
    (s.putFeeder f e).store = s.store := rfl
@[simp] theorem State.putFeeder_pay (s : State) (f : Feeder) (e : FeederEntry) :
    (s.putFeeder f e).pay = s.pay := rfl
@[simp] theorem State.putFeeder_site (s : State) (f : Feeder) (e : FeederEntry) :
    (s.putFeeder f e).site = s.site := rfl
@[simp] theorem State.putFeeder_resetAsserted (s : State) (f : Feeder) (e : FeederEntry) :
    (s.putFeeder f e).resetAsserted = s.resetAsserted := rfl
@[simp] theorem State.putFeeder_addrPin (s : State) (f : Feeder) (e : FeederEntry) :
    (s.putFeeder f e).addrPin = s.addrPin := rfl
@[simp] theorem State.putFeeder_pending (s : State) (f : Feeder) (e : FeederEntry) :
    (s.putFeeder f e).pending = s.pending := rfl

/-! `State.putLoopEntry` -/

@[simp] theorem State.putLoopEntry_time (s : State) (p : Pedestal) (e : LoopEntry) :
    (s.putLoopEntry p e).time = s.time := rfl
@[simp] theorem State.putLoopEntry_park (s : State) (p : Pedestal) (e : LoopEntry) :
    (s.putLoopEntry p e).park = s.park := rfl
@[simp] theorem State.putLoopEntry_account (s : State) (p : Pedestal) (e : LoopEntry) :
    (s.putLoopEntry p e).account = s.account := rfl
@[simp] theorem State.putLoopEntry_allot (s : State) (p : Pedestal) (e : LoopEntry) :
    (s.putLoopEntry p e).allot = s.allot := rfl
@[simp] theorem State.putLoopEntry_meas (s : State) (p : Pedestal) (e : LoopEntry) :
    (s.putLoopEntry p e).meas = s.meas := rfl
@[simp] theorem State.putLoopEntry_store (s : State) (p : Pedestal) (e : LoopEntry) :
    (s.putLoopEntry p e).store = s.store := rfl
@[simp] theorem State.putLoopEntry_pay (s : State) (p : Pedestal) (e : LoopEntry) :
    (s.putLoopEntry p e).pay = s.pay := rfl
@[simp] theorem State.putLoopEntry_site (s : State) (p : Pedestal) (e : LoopEntry) :
    (s.putLoopEntry p e).site = s.site := rfl
@[simp] theorem State.putLoopEntry_resetAsserted (s : State) (p : Pedestal) (e : LoopEntry) :
    (s.putLoopEntry p e).resetAsserted = s.resetAsserted := rfl
@[simp] theorem State.putLoopEntry_addrPin (s : State) (p : Pedestal) (e : LoopEntry) :
    (s.putLoopEntry p e).addrPin = s.addrPin := rfl
@[simp] theorem State.putLoopEntry_pending (s : State) (p : Pedestal) (e : LoopEntry) :
    (s.putLoopEntry p e).pending = s.pending := rfl

/-! `State.raisePay` -/

@[simp] theorem State.raisePay_time (s : State) (c : PayCause) : (s.raisePay c).time = s.time := rfl
@[simp] theorem State.raisePay_park (s : State) (c : PayCause) : (s.raisePay c).park = s.park := rfl
@[simp] theorem State.raisePay_account (s : State) (c : PayCause) :
    (s.raisePay c).account = s.account := rfl
@[simp] theorem State.raisePay_allot (s : State) (c : PayCause) :
    (s.raisePay c).allot = s.allot := rfl
@[simp] theorem State.raisePay_loop (s : State) (c : PayCause) : (s.raisePay c).loop = s.loop := rfl
@[simp] theorem State.raisePay_meas (s : State) (c : PayCause) : (s.raisePay c).meas = s.meas := rfl
@[simp] theorem State.raisePay_store (s : State) (c : PayCause) :
    (s.raisePay c).store = s.store := rfl
@[simp] theorem State.raisePay_site (s : State) (c : PayCause) : (s.raisePay c).site = s.site := rfl
@[simp] theorem State.raisePay_resetAsserted (s : State) (c : PayCause) :
    (s.raisePay c).resetAsserted = s.resetAsserted := rfl
@[simp] theorem State.raisePay_addrPin (s : State) (c : PayCause) :
    (s.raisePay c).addrPin = s.addrPin := rfl
@[simp] theorem State.raisePay_pending (s : State) (c : PayCause) :
    (s.raisePay c).pending = s.pending := rfl

/-! `State.raiseSite` -/

@[simp] theorem State.raiseSite_time (s : State) (c : SiteCause) :
    (s.raiseSite c).time = s.time := rfl
@[simp] theorem State.raiseSite_park (s : State) (c : SiteCause) :
    (s.raiseSite c).park = s.park := rfl
@[simp] theorem State.raiseSite_account (s : State) (c : SiteCause) :
    (s.raiseSite c).account = s.account := rfl
@[simp] theorem State.raiseSite_allot (s : State) (c : SiteCause) :
    (s.raiseSite c).allot = s.allot := rfl
@[simp] theorem State.raiseSite_loop (s : State) (c : SiteCause) :
    (s.raiseSite c).loop = s.loop := rfl
@[simp] theorem State.raiseSite_meas (s : State) (c : SiteCause) :
    (s.raiseSite c).meas = s.meas := rfl
@[simp] theorem State.raiseSite_store (s : State) (c : SiteCause) :
    (s.raiseSite c).store = s.store := rfl
@[simp] theorem State.raiseSite_pay (s : State) (c : SiteCause) : (s.raiseSite c).pay = s.pay := rfl
@[simp] theorem State.raiseSite_resetAsserted (s : State) (c : SiteCause) :
    (s.raiseSite c).resetAsserted = s.resetAsserted := rfl
@[simp] theorem State.raiseSite_addrPin (s : State) (c : SiteCause) :
    (s.raiseSite c).addrPin = s.addrPin := rfl
@[simp] theorem State.raiseSite_pending (s : State) (c : SiteCause) :
    (s.raiseSite c).pending = s.pending := rfl

/-! `State.raiseStoreFault` -/

@[simp] theorem State.raiseStoreFault_time (s : State) : s.raiseStoreFault.time = s.time := rfl
@[simp] theorem State.raiseStoreFault_park (s : State) : s.raiseStoreFault.park = s.park := rfl
@[simp] theorem State.raiseStoreFault_account (s : State) :
    s.raiseStoreFault.account = s.account := rfl
@[simp] theorem State.raiseStoreFault_allot (s : State) : s.raiseStoreFault.allot = s.allot := rfl
@[simp] theorem State.raiseStoreFault_loop (s : State) : s.raiseStoreFault.loop = s.loop := rfl
@[simp] theorem State.raiseStoreFault_meas (s : State) : s.raiseStoreFault.meas = s.meas := rfl
@[simp] theorem State.raiseStoreFault_store (s : State) : s.raiseStoreFault.store = s.store := rfl
@[simp] theorem State.raiseStoreFault_resetAsserted (s : State) :
    s.raiseStoreFault.resetAsserted = s.resetAsserted := rfl
@[simp] theorem State.raiseStoreFault_addrPin (s : State) :
    s.raiseStoreFault.addrPin = s.addrPin := rfl
@[simp] theorem State.raiseStoreFault_pending (s : State) :
    s.raiseStoreFault.pending = s.pending := rfl

/-! `State.drive` -/

@[simp] theorem State.drive_time (s : State) : s.drive.time = s.time := rfl
@[simp] theorem State.drive_park (s : State) : s.drive.park = s.park := rfl
@[simp] theorem State.drive_account (s : State) : s.drive.account = s.account := rfl
@[simp] theorem State.drive_allot (s : State) : s.drive.allot = s.allot := rfl
@[simp] theorem State.drive_loop (s : State) : s.drive.loop = s.loop := rfl
@[simp] theorem State.drive_meas (s : State) : s.drive.meas = s.meas := rfl
@[simp] theorem State.drive_store (s : State) : s.drive.store = s.store := rfl
@[simp] theorem State.drive_resetAsserted (s : State) :
    s.drive.resetAsserted = s.resetAsserted := rfl
@[simp] theorem State.drive_addrPin (s : State) : s.drive.addrPin = s.addrPin := rfl
@[simp] theorem State.drive_pending (s : State) : s.drive.pending = s.pending := rfl

/-! `State.recompute` -/

@[simp] theorem State.recompute_time (s : State) : s.recompute.time = s.time := rfl
@[simp] theorem State.recompute_park (s : State) : s.recompute.park = s.park := rfl
@[simp] theorem State.recompute_account (s : State) : s.recompute.account = s.account := rfl
@[simp] theorem State.recompute_loop (s : State) : s.recompute.loop = s.loop := rfl
@[simp] theorem State.recompute_meas (s : State) : s.recompute.meas = s.meas := rfl
@[simp] theorem State.recompute_store (s : State) : s.recompute.store = s.store := rfl
@[simp] theorem State.recompute_pay (s : State) : s.recompute.pay = s.pay := rfl
@[simp] theorem State.recompute_site (s : State) : s.recompute.site = s.site := rfl
@[simp] theorem State.recompute_resetAsserted (s : State) :
    s.recompute.resetAsserted = s.resetAsserted := rfl
@[simp] theorem State.recompute_addrPin (s : State) : s.recompute.addrPin = s.addrPin := rfl
@[simp] theorem State.recompute_pending (s : State) : s.recompute.pending = s.pending := rfl

/-! `State.endTracking` -/

@[simp] theorem State.endTracking_time (s : State) (p : Pedestal) :
    (s.endTracking p).time = s.time := rfl
@[simp] theorem State.endTracking_park (s : State) (p : Pedestal) :
    (s.endTracking p).park = s.park := rfl
@[simp] theorem State.endTracking_account (s : State) (p : Pedestal) :
    (s.endTracking p).account = s.account := rfl
@[simp] theorem State.endTracking_loop (s : State) (p : Pedestal) :
    (s.endTracking p).loop = s.loop := rfl
@[simp] theorem State.endTracking_meas (s : State) (p : Pedestal) :
    (s.endTracking p).meas = s.meas := rfl
@[simp] theorem State.endTracking_store (s : State) (p : Pedestal) :
    (s.endTracking p).store = s.store := rfl
@[simp] theorem State.endTracking_pay (s : State) (p : Pedestal) :
    (s.endTracking p).pay = s.pay := rfl
@[simp] theorem State.endTracking_site (s : State) (p : Pedestal) :
    (s.endTracking p).site = s.site := rfl
@[simp] theorem State.endTracking_resetAsserted (s : State) (p : Pedestal) :
    (s.endTracking p).resetAsserted = s.resetAsserted := rfl
@[simp] theorem State.endTracking_addrPin (s : State) (p : Pedestal) :
    (s.endTracking p).addrPin = s.addrPin := rfl
@[simp] theorem State.endTracking_pending (s : State) (p : Pedestal) :
    (s.endTracking p).pending = s.pending := rfl

/-! `State.advance` -/

@[simp] theorem State.advance_park (s : State) (n : Nat) : (State.advance n s).park = s.park := rfl
@[simp] theorem State.advance_meas (s : State) (n : Nat) : (State.advance n s).meas = s.meas := rfl
@[simp] theorem State.advance_pay (s : State) (n : Nat) : (State.advance n s).pay = s.pay := rfl
@[simp] theorem State.advance_site (s : State) (n : Nat) : (State.advance n s).site = s.site := rfl
@[simp] theorem State.advance_resetAsserted (s : State) (n : Nat) :
    (State.advance n s).resetAsserted = s.resetAsserted := rfl
@[simp] theorem State.advance_addrPin (s : State) (n : Nat) :
    (State.advance n s).addrPin = s.addrPin := rfl
@[simp] theorem State.advance_pending (s : State) (n : Nat) :
    (State.advance n s).pending = s.pending := rfl

/-! `State.putSlotState` -/

@[simp] theorem State.putSlotState_time (s : State) (i : RecordSlot) (x : SlotState) :
    (s.putSlotState i x).time = s.time := rfl
@[simp] theorem State.putSlotState_park (s : State) (i : RecordSlot) (x : SlotState) :
    (s.putSlotState i x).park = s.park := rfl
@[simp] theorem State.putSlotState_account (s : State) (i : RecordSlot) (x : SlotState) :
    (s.putSlotState i x).account = s.account := rfl
@[simp] theorem State.putSlotState_allot (s : State) (i : RecordSlot) (x : SlotState) :
    (s.putSlotState i x).allot = s.allot := rfl
@[simp] theorem State.putSlotState_loop (s : State) (i : RecordSlot) (x : SlotState) :
    (s.putSlotState i x).loop = s.loop := rfl
@[simp] theorem State.putSlotState_meas (s : State) (i : RecordSlot) (x : SlotState) :
    (s.putSlotState i x).meas = s.meas := rfl
@[simp] theorem State.putSlotState_pay (s : State) (i : RecordSlot) (x : SlotState) :
    (s.putSlotState i x).pay = s.pay := rfl
@[simp] theorem State.putSlotState_site (s : State) (i : RecordSlot) (x : SlotState) :
    (s.putSlotState i x).site = s.site := rfl
@[simp] theorem State.putSlotState_resetAsserted (s : State) (i : RecordSlot) (x : SlotState) :
    (s.putSlotState i x).resetAsserted = s.resetAsserted := rfl
@[simp] theorem State.putSlotState_addrPin (s : State) (i : RecordSlot) (x : SlotState) :
    (s.putSlotState i x).addrPin = s.addrPin := rfl
@[simp] theorem State.putSlotState_pending (s : State) (i : RecordSlot) (x : SlotState) :
    (s.putSlotState i x).pending = s.pending := rfl

/-! `State.putSlotCells` -/

@[simp] theorem State.putSlotCells_time (s : State) (i : RecordSlot) (x : SlotCells) :
    (s.putSlotCells i x).time = s.time := rfl
@[simp] theorem State.putSlotCells_park (s : State) (i : RecordSlot) (x : SlotCells) :
    (s.putSlotCells i x).park = s.park := rfl
@[simp] theorem State.putSlotCells_account (s : State) (i : RecordSlot) (x : SlotCells) :
    (s.putSlotCells i x).account = s.account := rfl
@[simp] theorem State.putSlotCells_allot (s : State) (i : RecordSlot) (x : SlotCells) :
    (s.putSlotCells i x).allot = s.allot := rfl
@[simp] theorem State.putSlotCells_loop (s : State) (i : RecordSlot) (x : SlotCells) :
    (s.putSlotCells i x).loop = s.loop := rfl
@[simp] theorem State.putSlotCells_meas (s : State) (i : RecordSlot) (x : SlotCells) :
    (s.putSlotCells i x).meas = s.meas := rfl
@[simp] theorem State.putSlotCells_pay (s : State) (i : RecordSlot) (x : SlotCells) :
    (s.putSlotCells i x).pay = s.pay := rfl
@[simp] theorem State.putSlotCells_site (s : State) (i : RecordSlot) (x : SlotCells) :
    (s.putSlotCells i x).site = s.site := rfl
@[simp] theorem State.putSlotCells_resetAsserted (s : State) (i : RecordSlot) (x : SlotCells) :
    (s.putSlotCells i x).resetAsserted = s.resetAsserted := rfl
@[simp] theorem State.putSlotCells_addrPin (s : State) (i : RecordSlot) (x : SlotCells) :
    (s.putSlotCells i x).addrPin = s.addrPin := rfl
@[simp] theorem State.putSlotCells_pending (s : State) (i : RecordSlot) (x : SlotCells) :
    (s.putSlotCells i x).pending = s.pending := rfl

/-! `State.updateQueued` -/

@[simp] theorem State.updateQueued_time (s : State) (n : Nat) (f : QueueEntry → QueueEntry) :
    (s.updateQueued n f).time = s.time := rfl
@[simp] theorem State.updateQueued_park (s : State) (n : Nat) (f : QueueEntry → QueueEntry) :
    (s.updateQueued n f).park = s.park := rfl
@[simp] theorem State.updateQueued_account (s : State) (n : Nat) (f : QueueEntry → QueueEntry) :
    (s.updateQueued n f).account = s.account := rfl
@[simp] theorem State.updateQueued_allot (s : State) (n : Nat) (f : QueueEntry → QueueEntry) :
    (s.updateQueued n f).allot = s.allot := rfl
@[simp] theorem State.updateQueued_loop (s : State) (n : Nat) (f : QueueEntry → QueueEntry) :
    (s.updateQueued n f).loop = s.loop := rfl
@[simp] theorem State.updateQueued_meas (s : State) (n : Nat) (f : QueueEntry → QueueEntry) :
    (s.updateQueued n f).meas = s.meas := rfl
@[simp] theorem State.updateQueued_pay (s : State) (n : Nat) (f : QueueEntry → QueueEntry) :
    (s.updateQueued n f).pay = s.pay := rfl
@[simp] theorem State.updateQueued_site (s : State) (n : Nat) (f : QueueEntry → QueueEntry) :
    (s.updateQueued n f).site = s.site := rfl
@[simp] theorem State.updateQueued_resetAsserted (s : State) (n : Nat) (f : QueueEntry → QueueEntry) :
    (s.updateQueued n f).resetAsserted = s.resetAsserted := rfl
@[simp] theorem State.updateQueued_addrPin (s : State) (n : Nat) (f : QueueEntry → QueueEntry) :
    (s.updateQueued n f).addrPin = s.addrPin := rfl
@[simp] theorem State.updateQueued_pending (s : State) (n : Nat) (f : QueueEntry → QueueEntry) :
    (s.updateQueued n f).pending = s.pending := rfl

/-! `State.dequeue` -/

@[simp] theorem State.dequeue_time (s : State) (n : Nat) : (s.dequeue n).time = s.time := rfl
@[simp] theorem State.dequeue_park (s : State) (n : Nat) : (s.dequeue n).park = s.park := rfl
@[simp] theorem State.dequeue_account (s : State) (n : Nat) :
    (s.dequeue n).account = s.account := rfl
@[simp] theorem State.dequeue_allot (s : State) (n : Nat) : (s.dequeue n).allot = s.allot := rfl
@[simp] theorem State.dequeue_loop (s : State) (n : Nat) : (s.dequeue n).loop = s.loop := rfl
@[simp] theorem State.dequeue_meas (s : State) (n : Nat) : (s.dequeue n).meas = s.meas := rfl
@[simp] theorem State.dequeue_pay (s : State) (n : Nat) : (s.dequeue n).pay = s.pay := rfl
@[simp] theorem State.dequeue_site (s : State) (n : Nat) : (s.dequeue n).site = s.site := rfl
@[simp] theorem State.dequeue_resetAsserted (s : State) (n : Nat) :
    (s.dequeue n).resetAsserted = s.resetAsserted := rfl
@[simp] theorem State.dequeue_addrPin (s : State) (n : Nat) :
    (s.dequeue n).addrPin = s.addrPin := rfl
@[simp] theorem State.dequeue_pending (s : State) (n : Nat) :
    (s.dequeue n).pending = s.pending := rfl

/-! `State.joinFirst` -/

@[simp] theorem State.joinFirst_time (s : State) (item : WorkItem) :
    (s.joinFirst item).time = s.time := rfl
@[simp] theorem State.joinFirst_park (s : State) (item : WorkItem) :
    (s.joinFirst item).park = s.park := rfl
@[simp] theorem State.joinFirst_account (s : State) (item : WorkItem) :
    (s.joinFirst item).account = s.account := rfl
@[simp] theorem State.joinFirst_allot (s : State) (item : WorkItem) :
    (s.joinFirst item).allot = s.allot := rfl
@[simp] theorem State.joinFirst_loop (s : State) (item : WorkItem) :
    (s.joinFirst item).loop = s.loop := rfl
@[simp] theorem State.joinFirst_meas (s : State) (item : WorkItem) :
    (s.joinFirst item).meas = s.meas := rfl
@[simp] theorem State.joinFirst_pay (s : State) (item : WorkItem) :
    (s.joinFirst item).pay = s.pay := rfl
@[simp] theorem State.joinFirst_site (s : State) (item : WorkItem) :
    (s.joinFirst item).site = s.site := rfl
@[simp] theorem State.joinFirst_resetAsserted (s : State) (item : WorkItem) :
    (s.joinFirst item).resetAsserted = s.resetAsserted := rfl
@[simp] theorem State.joinFirst_addrPin (s : State) (item : WorkItem) :
    (s.joinFirst item).addrPin = s.addrPin := rfl
@[simp] theorem State.joinFirst_pending (s : State) (item : WorkItem) :
    (s.joinFirst item).pending = s.pending := rfl

/-! `State.joinSecond` -/

@[simp] theorem State.joinSecond_time (s : State) (item : WorkItem) :
    (s.joinSecond item).time = s.time := rfl
@[simp] theorem State.joinSecond_park (s : State) (item : WorkItem) :
    (s.joinSecond item).park = s.park := rfl
@[simp] theorem State.joinSecond_account (s : State) (item : WorkItem) :
    (s.joinSecond item).account = s.account := rfl
@[simp] theorem State.joinSecond_allot (s : State) (item : WorkItem) :
    (s.joinSecond item).allot = s.allot := rfl
@[simp] theorem State.joinSecond_loop (s : State) (item : WorkItem) :
    (s.joinSecond item).loop = s.loop := rfl
@[simp] theorem State.joinSecond_meas (s : State) (item : WorkItem) :
    (s.joinSecond item).meas = s.meas := rfl
@[simp] theorem State.joinSecond_pay (s : State) (item : WorkItem) :
    (s.joinSecond item).pay = s.pay := rfl
@[simp] theorem State.joinSecond_site (s : State) (item : WorkItem) :
    (s.joinSecond item).site = s.site := rfl
@[simp] theorem State.joinSecond_resetAsserted (s : State) (item : WorkItem) :
    (s.joinSecond item).resetAsserted = s.resetAsserted := rfl
@[simp] theorem State.joinSecond_addrPin (s : State) (item : WorkItem) :
    (s.joinSecond item).addrPin = s.addrPin := rfl
@[simp] theorem State.joinSecond_pending (s : State) (item : WorkItem) :
    (s.joinSecond item).pending = s.pending := rfl

/-! `State.putFlight` -/

@[simp] theorem State.putFlight_time (s : State) (f : Option Flight) :
    (s.putFlight f).time = s.time := rfl
@[simp] theorem State.putFlight_park (s : State) (f : Option Flight) :
    (s.putFlight f).park = s.park := rfl
@[simp] theorem State.putFlight_account (s : State) (f : Option Flight) :
    (s.putFlight f).account = s.account := rfl
@[simp] theorem State.putFlight_allot (s : State) (f : Option Flight) :
    (s.putFlight f).allot = s.allot := rfl
@[simp] theorem State.putFlight_loop (s : State) (f : Option Flight) :
    (s.putFlight f).loop = s.loop := rfl
@[simp] theorem State.putFlight_meas (s : State) (f : Option Flight) :
    (s.putFlight f).meas = s.meas := rfl
@[simp] theorem State.putFlight_pay (s : State) (f : Option Flight) :
    (s.putFlight f).pay = s.pay := rfl
@[simp] theorem State.putFlight_site (s : State) (f : Option Flight) :
    (s.putFlight f).site = s.site := rfl
@[simp] theorem State.putFlight_resetAsserted (s : State) (f : Option Flight) :
    (s.putFlight f).resetAsserted = s.resetAsserted := rfl
@[simp] theorem State.putFlight_addrPin (s : State) (f : Option Flight) :
    (s.putFlight f).addrPin = s.addrPin := rfl
@[simp] theorem State.putFlight_pending (s : State) (f : Option Flight) :
    (s.putFlight f).pending = s.pending := rfl

/-! `State.endNotDurable` -/

@[simp] theorem State.endNotDurable_time (s : State) (n : Nat) :
    (s.endNotDurable n).time = s.time := rfl
@[simp] theorem State.endNotDurable_park (s : State) (n : Nat) :
    (s.endNotDurable n).park = s.park := rfl
@[simp] theorem State.endNotDurable_account (s : State) (n : Nat) :
    (s.endNotDurable n).account = s.account := rfl
@[simp] theorem State.endNotDurable_allot (s : State) (n : Nat) :
    (s.endNotDurable n).allot = s.allot := rfl
@[simp] theorem State.endNotDurable_loop (s : State) (n : Nat) :
    (s.endNotDurable n).loop = s.loop := rfl
@[simp] theorem State.endNotDurable_meas (s : State) (n : Nat) :
    (s.endNotDurable n).meas = s.meas := rfl
@[simp] theorem State.endNotDurable_resetAsserted (s : State) (n : Nat) :
    (s.endNotDurable n).resetAsserted = s.resetAsserted := rfl
@[simp] theorem State.endNotDurable_addrPin (s : State) (n : Nat) :
    (s.endNotDurable n).addrPin = s.addrPin := rfl
@[simp] theorem State.endNotDurable_pending (s : State) (n : Nat) :
    (s.endNotDurable n).pending = s.pending := rfl

/-! `State.enterPark` -/

@[simp] theorem State.enterPark_time (s : State) (x : ParkState) :
    (s.enterPark x).time = s.time := rfl
@[simp] theorem State.enterPark_account (s : State) (x : ParkState) :
    (s.enterPark x).account = s.account := rfl
@[simp] theorem State.enterPark_allot (s : State) (x : ParkState) :
    (s.enterPark x).allot = s.allot := rfl
@[simp] theorem State.enterPark_loop (s : State) (x : ParkState) :
    (s.enterPark x).loop = s.loop := rfl
@[simp] theorem State.enterPark_meas (s : State) (x : ParkState) :
    (s.enterPark x).meas = s.meas := rfl
@[simp] theorem State.enterPark_store (s : State) (x : ParkState) :
    (s.enterPark x).store = s.store := rfl
@[simp] theorem State.enterPark_pay (s : State) (x : ParkState) : (s.enterPark x).pay = s.pay := rfl
@[simp] theorem State.enterPark_resetAsserted (s : State) (x : ParkState) :
    (s.enterPark x).resetAsserted = s.resetAsserted := rfl
@[simp] theorem State.enterPark_addrPin (s : State) (x : ParkState) :
    (s.enterPark x).addrPin = s.addrPin := rfl
@[simp] theorem State.enterPark_pending (s : State) (x : ParkState) :
    (s.enterPark x).pending = s.pending := rfl

/-! `State.payReply` -/

@[simp] theorem State.payReply_time (s : State) (kind : Byte) (unread : Bool) (r : Reply) :
    (s.payReply kind unread r).time = s.time := rfl
@[simp] theorem State.payReply_park (s : State) (kind : Byte) (unread : Bool) (r : Reply) :
    (s.payReply kind unread r).park = s.park := rfl
@[simp] theorem State.payReply_account (s : State) (kind : Byte) (unread : Bool) (r : Reply) :
    (s.payReply kind unread r).account = s.account := rfl
@[simp] theorem State.payReply_allot (s : State) (kind : Byte) (unread : Bool) (r : Reply) :
    (s.payReply kind unread r).allot = s.allot := rfl
@[simp] theorem State.payReply_loop (s : State) (kind : Byte) (unread : Bool) (r : Reply) :
    (s.payReply kind unread r).loop = s.loop := rfl
@[simp] theorem State.payReply_meas (s : State) (kind : Byte) (unread : Bool) (r : Reply) :
    (s.payReply kind unread r).meas = s.meas := rfl
@[simp] theorem State.payReply_store (s : State) (kind : Byte) (unread : Bool) (r : Reply) :
    (s.payReply kind unread r).store = s.store := rfl
@[simp] theorem State.payReply_site (s : State) (kind : Byte) (unread : Bool) (r : Reply) :
    (s.payReply kind unread r).site = s.site := rfl
@[simp] theorem State.payReply_resetAsserted (s : State) (kind : Byte) (unread : Bool) (r : Reply) :
    (s.payReply kind unread r).resetAsserted = s.resetAsserted := rfl
@[simp] theorem State.payReply_addrPin (s : State) (kind : Byte) (unread : Bool) (r : Reply) :
    (s.payReply kind unread r).addrPin = s.addrPin := rfl
@[simp] theorem State.payReply_pending (s : State) (kind : Byte) (unread : Bool) (r : Reply) :
    (s.payReply kind unread r).pending = s.pending := rfl

/-! `State.siteReply` -/

@[simp] theorem State.siteReply_time (s : State) (kind : Byte) (unread : Bool) (r : Reply) :
    (s.siteReply kind unread r).time = s.time := rfl
@[simp] theorem State.siteReply_park (s : State) (kind : Byte) (unread : Bool) (r : Reply) :
    (s.siteReply kind unread r).park = s.park := rfl
@[simp] theorem State.siteReply_account (s : State) (kind : Byte) (unread : Bool) (r : Reply) :
    (s.siteReply kind unread r).account = s.account := rfl
@[simp] theorem State.siteReply_allot (s : State) (kind : Byte) (unread : Bool) (r : Reply) :
    (s.siteReply kind unread r).allot = s.allot := rfl
@[simp] theorem State.siteReply_loop (s : State) (kind : Byte) (unread : Bool) (r : Reply) :
    (s.siteReply kind unread r).loop = s.loop := rfl
@[simp] theorem State.siteReply_meas (s : State) (kind : Byte) (unread : Bool) (r : Reply) :
    (s.siteReply kind unread r).meas = s.meas := rfl
@[simp] theorem State.siteReply_store (s : State) (kind : Byte) (unread : Bool) (r : Reply) :
    (s.siteReply kind unread r).store = s.store := rfl
@[simp] theorem State.siteReply_pay (s : State) (kind : Byte) (unread : Bool) (r : Reply) :
    (s.siteReply kind unread r).pay = s.pay := rfl
@[simp] theorem State.siteReply_resetAsserted (s : State) (kind : Byte) (unread : Bool) (r : Reply) :
    (s.siteReply kind unread r).resetAsserted = s.resetAsserted := rfl
@[simp] theorem State.siteReply_addrPin (s : State) (kind : Byte) (unread : Bool) (r : Reply) :
    (s.siteReply kind unread r).addrPin = s.addrPin := rfl
@[simp] theorem State.siteReply_pending (s : State) (kind : Byte) (unread : Bool) (r : Reply) :
    (s.siteReply kind unread r).pending = s.pending := rfl

/-! `State.trackDraw` -/

@[simp] theorem State.trackDraw_time (s : State) (p : Pedestal) (draw : Nat) :
    (s.trackDraw p draw).time = s.time := rfl
@[simp] theorem State.trackDraw_park (s : State) (p : Pedestal) (draw : Nat) :
    (s.trackDraw p draw).park = s.park := rfl
@[simp] theorem State.trackDraw_account (s : State) (p : Pedestal) (draw : Nat) :
    (s.trackDraw p draw).account = s.account := rfl
@[simp] theorem State.trackDraw_loop (s : State) (p : Pedestal) (draw : Nat) :
    (s.trackDraw p draw).loop = s.loop := rfl
@[simp] theorem State.trackDraw_meas (s : State) (p : Pedestal) (draw : Nat) :
    (s.trackDraw p draw).meas = s.meas := rfl
@[simp] theorem State.trackDraw_store (s : State) (p : Pedestal) (draw : Nat) :
    (s.trackDraw p draw).store = s.store := rfl
@[simp] theorem State.trackDraw_pay (s : State) (p : Pedestal) (draw : Nat) :
    (s.trackDraw p draw).pay = s.pay := rfl
@[simp] theorem State.trackDraw_site (s : State) (p : Pedestal) (draw : Nat) :
    (s.trackDraw p draw).site = s.site := rfl
@[simp] theorem State.trackDraw_resetAsserted (s : State) (p : Pedestal) (draw : Nat) :
    (s.trackDraw p draw).resetAsserted = s.resetAsserted := rfl
@[simp] theorem State.trackDraw_addrPin (s : State) (p : Pedestal) (draw : Nat) :
    (s.trackDraw p draw).addrPin = s.addrPin := rfl
@[simp] theorem State.trackDraw_pending (s : State) (p : Pedestal) (draw : Nat) :
    (s.trackDraw p draw).pending = s.pending := rfl

/-! Fields within the block that an update reaches. -/

@[simp] theorem State.putSlot_account_authQueue (s : State) (p : Pedestal) (x : SessionSlot) :
    (s.putSlot p x).account.authQueue = s.account.authQueue := rfl
@[simp] theorem State.putSlot_account_nextNumber (s : State) (p : Pedestal) (x : SessionSlot) :
    (s.putSlot p x).account.nextNumber = s.account.nextNumber := rfl
@[simp] theorem State.putSlot_account_reservationLimit (s : State) (p : Pedestal) (x : SessionSlot) :
    (s.putSlot p x).account.reservationLimit = s.account.reservationLimit := rfl
@[simp] theorem State.putSlot_account_nextClose (s : State) (p : Pedestal) (x : SessionSlot) :
    (s.putSlot p x).account.nextClose = s.account.nextClose := rfl
@[simp] theorem State.putSlot_account_rows (s : State) (p : Pedestal) (x : SessionSlot) :
    (s.putSlot p x).account.rows = s.account.rows := rfl
@[simp] theorem State.putSlot_account_bindings (s : State) (p : Pedestal) (x : SessionSlot) :
    (s.putSlot p x).account.bindings = s.account.bindings := rfl

@[simp] theorem State.putSession_account_authQueue (s : State) (p : Pedestal) (x : Session) :
    (s.putSession p x).account.authQueue = s.account.authQueue := rfl
@[simp] theorem State.putSession_account_nextNumber (s : State) (p : Pedestal) (x : Session) :
    (s.putSession p x).account.nextNumber = s.account.nextNumber := rfl
@[simp] theorem State.putSession_account_reservationLimit (s : State) (p : Pedestal) (x : Session) :
    (s.putSession p x).account.reservationLimit = s.account.reservationLimit := rfl
@[simp] theorem State.putSession_account_nextClose (s : State) (p : Pedestal) (x : Session) :
    (s.putSession p x).account.nextClose = s.account.nextClose := rfl
@[simp] theorem State.putSession_account_rows (s : State) (p : Pedestal) (x : Session) :
    (s.putSession p x).account.rows = s.account.rows := rfl
@[simp] theorem State.putSession_account_bindings (s : State) (p : Pedestal) (x : Session) :
    (s.putSession p x).account.bindings = s.account.bindings := rfl

@[simp] theorem State.putEntry_allot_feeders (s : State) (p : Pedestal) (e : AllotEntry) :
    (s.putEntry p e).allot.feeders = s.allot.feeders := rfl
@[simp] theorem State.putEntry_allot_siteCeiling (s : State) (p : Pedestal) (e : AllotEntry) :
    (s.putEntry p e).allot.siteCeiling = s.allot.siteCeiling := rfl
@[simp] theorem State.putEntry_allot_parameters (s : State) (p : Pedestal) (e : AllotEntry) :
    (s.putEntry p e).allot.parameters = s.allot.parameters := rfl

@[simp] theorem State.putFeeder_allot_entries (s : State) (f : Feeder) (e : FeederEntry) :
    (s.putFeeder f e).allot.entries = s.allot.entries := rfl
@[simp] theorem State.putFeeder_allot_siteCeiling (s : State) (f : Feeder) (e : FeederEntry) :
    (s.putFeeder f e).allot.siteCeiling = s.allot.siteCeiling := rfl
@[simp] theorem State.putFeeder_allot_parameters (s : State) (f : Feeder) (e : FeederEntry) :
    (s.putFeeder f e).allot.parameters = s.allot.parameters := rfl

@[simp] theorem State.putLoopEntry_loop_round (s : State) (p : Pedestal) (e : LoopEntry) :
    (s.putLoopEntry p e).loop.round = s.loop.round := rfl
@[simp] theorem State.putLoopEntry_loop_nextRound (s : State) (p : Pedestal) (e : LoopEntry) :
    (s.putLoopEntry p e).loop.nextRound = s.loop.nextRound := rfl
@[simp] theorem State.putLoopEntry_loop_exchange (s : State) (p : Pedestal) (e : LoopEntry) :
    (s.putLoopEntry p e).loop.exchange = s.loop.exchange := rfl
@[simp] theorem State.putLoopEntry_loop_loopTx (s : State) (p : Pedestal) (e : LoopEntry) :
    (s.putLoopEntry p e).loop.loopTx = s.loop.loopTx := rfl

@[simp] theorem State.putLoopEntry_loop_driverEnable (s : State) (p : Pedestal) (e : LoopEntry) :
    (s.putLoopEntry p e).loop.driverEnable = s.loop.driverEnable := rfl

@[simp] theorem State.raisePay_pay_state (s : State) (c : PayCause) :
    (s.raisePay c).pay.state = s.pay.state := rfl
@[simp] theorem State.raisePay_pay_dropped (s : State) (c : PayCause) :
    (s.raisePay c).pay.dropped = s.pay.dropped := rfl
@[simp] theorem State.raisePay_pay_window (s : State) (c : PayCause) :
    (s.raisePay c).pay.window = s.pay.window := rfl
@[simp] theorem State.raisePay_pay_payDo (s : State) (c : PayCause) :
    (s.raisePay c).pay.payDo = s.pay.payDo := rfl
@[simp] theorem State.raisePay_pay_rdy (s : State) (c : PayCause) :
    (s.raisePay c).pay.rdy = s.pay.rdy := rfl
@[simp] theorem State.raisePay_pay_atn (s : State) (c : PayCause) :
    (s.raisePay c).pay.atn = s.pay.atn := rfl

@[simp] theorem State.raiseSite_site_state (s : State) (c : SiteCause) :
    (s.raiseSite c).site.state = s.site.state := rfl
@[simp] theorem State.raiseSite_site_dropped (s : State) (c : SiteCause) :
    (s.raiseSite c).site.dropped = s.site.dropped := rfl
@[simp] theorem State.raiseSite_site_address (s : State) (c : SiteCause) :
    (s.raiseSite c).site.address = s.site.address := rfl
@[simp] theorem State.raiseSite_site_siteRead (s : State) (c : SiteCause) :
    (s.raiseSite c).site.siteRead = s.site.siteRead := rfl
@[simp] theorem State.raiseSite_site_atn (s : State) (c : SiteCause) :
    (s.raiseSite c).site.atn = s.site.atn := rfl

@[simp] theorem State.raiseStoreFault_pay_state (s : State) :
    s.raiseStoreFault.pay.state = s.pay.state := rfl
@[simp] theorem State.raiseStoreFault_pay_dropped (s : State) :
    s.raiseStoreFault.pay.dropped = s.pay.dropped := rfl
@[simp] theorem State.raiseStoreFault_pay_window (s : State) :
    s.raiseStoreFault.pay.window = s.pay.window := rfl
@[simp] theorem State.raiseStoreFault_pay_payDo (s : State) :
    s.raiseStoreFault.pay.payDo = s.pay.payDo := rfl
@[simp] theorem State.raiseStoreFault_pay_rdy (s : State) :
    s.raiseStoreFault.pay.rdy = s.pay.rdy := rfl
@[simp] theorem State.raiseStoreFault_pay_atn (s : State) :
    s.raiseStoreFault.pay.atn = s.pay.atn := rfl
@[simp] theorem State.raiseStoreFault_site_state (s : State) :
    s.raiseStoreFault.site.state = s.site.state := rfl
@[simp] theorem State.raiseStoreFault_site_dropped (s : State) :
    s.raiseStoreFault.site.dropped = s.site.dropped := rfl
@[simp] theorem State.raiseStoreFault_site_address (s : State) :
    s.raiseStoreFault.site.address = s.site.address := rfl
@[simp] theorem State.raiseStoreFault_site_siteRead (s : State) :
    s.raiseStoreFault.site.siteRead = s.site.siteRead := rfl
@[simp] theorem State.raiseStoreFault_site_atn (s : State) :
    s.raiseStoreFault.site.atn = s.site.atn := rfl

@[simp] theorem State.drive_pay_state (s : State) : s.drive.pay.state = s.pay.state := rfl
@[simp] theorem State.drive_pay_dropped (s : State) : s.drive.pay.dropped = s.pay.dropped := rfl
@[simp] theorem State.drive_pay_window (s : State) : s.drive.pay.window = s.pay.window := rfl
@[simp] theorem State.drive_pay_payDo (s : State) : s.drive.pay.payDo = s.pay.payDo := rfl
@[simp] theorem State.drive_site_state (s : State) : s.drive.site.state = s.site.state := rfl
@[simp] theorem State.drive_site_dropped (s : State) : s.drive.site.dropped = s.site.dropped := rfl
@[simp] theorem State.drive_site_address (s : State) : s.drive.site.address = s.site.address := rfl
@[simp] theorem State.drive_site_siteRead (s : State) :
    s.drive.site.siteRead = s.site.siteRead := rfl

@[simp] theorem State.recompute_allot_siteCeiling (s : State) :
    s.recompute.allot.siteCeiling = s.allot.siteCeiling := rfl
@[simp] theorem State.recompute_allot_parameters (s : State) :
    s.recompute.allot.parameters = s.allot.parameters := rfl

@[simp] theorem State.endTracking_allot_feeders (s : State) (p : Pedestal) :
    (s.endTracking p).allot.feeders = s.allot.feeders := rfl
@[simp] theorem State.endTracking_allot_siteCeiling (s : State) (p : Pedestal) :
    (s.endTracking p).allot.siteCeiling = s.allot.siteCeiling := rfl
@[simp] theorem State.endTracking_allot_parameters (s : State) (p : Pedestal) :
    (s.endTracking p).allot.parameters = s.allot.parameters := rfl

@[simp] theorem State.advance_account_authQueue (s : State) (n : Nat) :
    (State.advance n s).account.authQueue = s.account.authQueue := rfl
@[simp] theorem State.advance_account_nextNumber (s : State) (n : Nat) :
    (State.advance n s).account.nextNumber = s.account.nextNumber := rfl
@[simp] theorem State.advance_account_reservationLimit (s : State) (n : Nat) :
    (State.advance n s).account.reservationLimit = s.account.reservationLimit := rfl
@[simp] theorem State.advance_account_nextClose (s : State) (n : Nat) :
    (State.advance n s).account.nextClose = s.account.nextClose := rfl
@[simp] theorem State.advance_account_rows (s : State) (n : Nat) :
    (State.advance n s).account.rows = s.account.rows := rfl
@[simp] theorem State.advance_account_bindings (s : State) (n : Nat) :
    (State.advance n s).account.bindings = s.account.bindings := rfl
@[simp] theorem State.advance_allot_feeders (s : State) (n : Nat) :
    (State.advance n s).allot.feeders = s.allot.feeders := rfl
@[simp] theorem State.advance_allot_siteCeiling (s : State) (n : Nat) :
    (State.advance n s).allot.siteCeiling = s.allot.siteCeiling := rfl
@[simp] theorem State.advance_allot_parameters (s : State) (n : Nat) :
    (State.advance n s).allot.parameters = s.allot.parameters := rfl
@[simp] theorem State.advance_loop_round (s : State) (n : Nat) :
    (State.advance n s).loop.round = s.loop.round := rfl
@[simp] theorem State.advance_loop_entries (s : State) (n : Nat) :
    (State.advance n s).loop.entries = s.loop.entries := rfl
@[simp] theorem State.advance_loop_loopTx (s : State) (n : Nat) :
    (State.advance n s).loop.loopTx = s.loop.loopTx := rfl

@[simp] theorem State.advance_loop_driverEnable (s : State) (n : Nat) :
    (State.advance n s).loop.driverEnable = s.loop.driverEnable := rfl
@[simp] theorem State.advance_store_array (s : State) (n : Nat) :
    (State.advance n s).store.array = s.store.array := rfl
@[simp] theorem State.advance_store_slotStates (s : State) (n : Nat) :
    (State.advance n s).store.slotStates = s.store.slotStates := rfl
@[simp] theorem State.advance_store_firstClass (s : State) (n : Nat) :
    (State.advance n s).store.firstClass = s.store.firstClass := rfl
@[simp] theorem State.advance_store_secondClass (s : State) (n : Nat) :
    (State.advance n s).store.secondClass = s.store.secondClass := rfl
@[simp] theorem State.advance_store_queue (s : State) (n : Nat) :
    (State.advance n s).store.queue = s.store.queue := rfl
@[simp] theorem State.advance_store_corrected (s : State) (n : Nat) :
    (State.advance n s).store.corrected = s.store.corrected := rfl

@[simp] theorem State.putSlotState_store_array (s : State) (i : RecordSlot) (x : SlotState) :
    (s.putSlotState i x).store.array = s.store.array := rfl
@[simp] theorem State.putSlotState_store_firstClass (s : State) (i : RecordSlot) (x : SlotState) :
    (s.putSlotState i x).store.firstClass = s.store.firstClass := rfl
@[simp] theorem State.putSlotState_store_secondClass (s : State) (i : RecordSlot) (x : SlotState) :
    (s.putSlotState i x).store.secondClass = s.store.secondClass := rfl
@[simp] theorem State.putSlotState_store_flight (s : State) (i : RecordSlot) (x : SlotState) :
    (s.putSlotState i x).store.flight = s.store.flight := rfl
@[simp] theorem State.putSlotState_store_queue (s : State) (i : RecordSlot) (x : SlotState) :
    (s.putSlotState i x).store.queue = s.store.queue := rfl
@[simp] theorem State.putSlotState_store_corrected (s : State) (i : RecordSlot) (x : SlotState) :
    (s.putSlotState i x).store.corrected = s.store.corrected := rfl

@[simp] theorem State.putSlotCells_store_slotStates (s : State) (i : RecordSlot) (x : SlotCells) :
    (s.putSlotCells i x).store.slotStates = s.store.slotStates := rfl
@[simp] theorem State.putSlotCells_store_firstClass (s : State) (i : RecordSlot) (x : SlotCells) :
    (s.putSlotCells i x).store.firstClass = s.store.firstClass := rfl
@[simp] theorem State.putSlotCells_store_secondClass (s : State) (i : RecordSlot) (x : SlotCells) :
    (s.putSlotCells i x).store.secondClass = s.store.secondClass := rfl
@[simp] theorem State.putSlotCells_store_flight (s : State) (i : RecordSlot) (x : SlotCells) :
    (s.putSlotCells i x).store.flight = s.store.flight := rfl
@[simp] theorem State.putSlotCells_store_queue (s : State) (i : RecordSlot) (x : SlotCells) :
    (s.putSlotCells i x).store.queue = s.store.queue := rfl
@[simp] theorem State.putSlotCells_store_corrected (s : State) (i : RecordSlot) (x : SlotCells) :
    (s.putSlotCells i x).store.corrected = s.store.corrected := rfl

@[simp] theorem State.updateQueued_store_array (s : State) (n : Nat) (f : QueueEntry → QueueEntry) :
    (s.updateQueued n f).store.array = s.store.array := rfl
@[simp] theorem State.updateQueued_store_slotStates (s : State) (n : Nat) (f : QueueEntry → QueueEntry) :
    (s.updateQueued n f).store.slotStates = s.store.slotStates := rfl
@[simp] theorem State.updateQueued_store_firstClass (s : State) (n : Nat) (f : QueueEntry → QueueEntry) :
    (s.updateQueued n f).store.firstClass = s.store.firstClass := rfl
@[simp] theorem State.updateQueued_store_secondClass (s : State) (n : Nat) (f : QueueEntry → QueueEntry) :
    (s.updateQueued n f).store.secondClass = s.store.secondClass := rfl
@[simp] theorem State.updateQueued_store_flight (s : State) (n : Nat) (f : QueueEntry → QueueEntry) :
    (s.updateQueued n f).store.flight = s.store.flight := rfl
@[simp] theorem State.updateQueued_store_corrected (s : State) (n : Nat) (f : QueueEntry → QueueEntry) :
    (s.updateQueued n f).store.corrected = s.store.corrected := rfl

@[simp] theorem State.dequeue_store_array (s : State) (n : Nat) :
    (s.dequeue n).store.array = s.store.array := rfl
@[simp] theorem State.dequeue_store_slotStates (s : State) (n : Nat) :
    (s.dequeue n).store.slotStates = s.store.slotStates := rfl
@[simp] theorem State.dequeue_store_firstClass (s : State) (n : Nat) :
    (s.dequeue n).store.firstClass = s.store.firstClass := rfl
@[simp] theorem State.dequeue_store_secondClass (s : State) (n : Nat) :
    (s.dequeue n).store.secondClass = s.store.secondClass := rfl
@[simp] theorem State.dequeue_store_flight (s : State) (n : Nat) :
    (s.dequeue n).store.flight = s.store.flight := rfl
@[simp] theorem State.dequeue_store_corrected (s : State) (n : Nat) :
    (s.dequeue n).store.corrected = s.store.corrected := rfl

@[simp] theorem State.joinFirst_store_array (s : State) (item : WorkItem) :
    (s.joinFirst item).store.array = s.store.array := rfl
@[simp] theorem State.joinFirst_store_slotStates (s : State) (item : WorkItem) :
    (s.joinFirst item).store.slotStates = s.store.slotStates := rfl
@[simp] theorem State.joinFirst_store_secondClass (s : State) (item : WorkItem) :
    (s.joinFirst item).store.secondClass = s.store.secondClass := rfl
@[simp] theorem State.joinFirst_store_flight (s : State) (item : WorkItem) :
    (s.joinFirst item).store.flight = s.store.flight := rfl
@[simp] theorem State.joinFirst_store_queue (s : State) (item : WorkItem) :
    (s.joinFirst item).store.queue = s.store.queue := rfl
@[simp] theorem State.joinFirst_store_corrected (s : State) (item : WorkItem) :
    (s.joinFirst item).store.corrected = s.store.corrected := rfl

@[simp] theorem State.joinSecond_store_array (s : State) (item : WorkItem) :
    (s.joinSecond item).store.array = s.store.array := rfl
@[simp] theorem State.joinSecond_store_slotStates (s : State) (item : WorkItem) :
    (s.joinSecond item).store.slotStates = s.store.slotStates := rfl
@[simp] theorem State.joinSecond_store_firstClass (s : State) (item : WorkItem) :
    (s.joinSecond item).store.firstClass = s.store.firstClass := rfl
@[simp] theorem State.joinSecond_store_flight (s : State) (item : WorkItem) :
    (s.joinSecond item).store.flight = s.store.flight := rfl
@[simp] theorem State.joinSecond_store_queue (s : State) (item : WorkItem) :
    (s.joinSecond item).store.queue = s.store.queue := rfl
@[simp] theorem State.joinSecond_store_corrected (s : State) (item : WorkItem) :
    (s.joinSecond item).store.corrected = s.store.corrected := rfl

@[simp] theorem State.putFlight_store_array (s : State) (f : Option Flight) :
    (s.putFlight f).store.array = s.store.array := rfl
@[simp] theorem State.putFlight_store_slotStates (s : State) (f : Option Flight) :
    (s.putFlight f).store.slotStates = s.store.slotStates := rfl
@[simp] theorem State.putFlight_store_firstClass (s : State) (f : Option Flight) :
    (s.putFlight f).store.firstClass = s.store.firstClass := rfl
@[simp] theorem State.putFlight_store_secondClass (s : State) (f : Option Flight) :
    (s.putFlight f).store.secondClass = s.store.secondClass := rfl
@[simp] theorem State.putFlight_store_queue (s : State) (f : Option Flight) :
    (s.putFlight f).store.queue = s.store.queue := rfl
@[simp] theorem State.putFlight_store_corrected (s : State) (f : Option Flight) :
    (s.putFlight f).store.corrected = s.store.corrected := rfl

@[simp] theorem State.endNotDurable_store_array (s : State) (n : Nat) :
    (s.endNotDurable n).store.array = s.store.array := rfl
@[simp] theorem State.endNotDurable_store_slotStates (s : State) (n : Nat) :
    (s.endNotDurable n).store.slotStates = s.store.slotStates := rfl
@[simp] theorem State.endNotDurable_store_firstClass (s : State) (n : Nat) :
    (s.endNotDurable n).store.firstClass = s.store.firstClass := rfl
@[simp] theorem State.endNotDurable_store_secondClass (s : State) (n : Nat) :
    (s.endNotDurable n).store.secondClass = s.store.secondClass := rfl
@[simp] theorem State.endNotDurable_store_flight (s : State) (n : Nat) :
    (s.endNotDurable n).store.flight = s.store.flight := rfl
@[simp] theorem State.endNotDurable_store_corrected (s : State) (n : Nat) :
    (s.endNotDurable n).store.corrected = s.store.corrected := rfl
@[simp] theorem State.endNotDurable_pay_state (s : State) (n : Nat) :
    (s.endNotDurable n).pay.state = s.pay.state := rfl
@[simp] theorem State.endNotDurable_pay_dropped (s : State) (n : Nat) :
    (s.endNotDurable n).pay.dropped = s.pay.dropped := rfl
@[simp] theorem State.endNotDurable_pay_window (s : State) (n : Nat) :
    (s.endNotDurable n).pay.window = s.pay.window := rfl
@[simp] theorem State.endNotDurable_pay_payDo (s : State) (n : Nat) :
    (s.endNotDurable n).pay.payDo = s.pay.payDo := rfl
@[simp] theorem State.endNotDurable_pay_rdy (s : State) (n : Nat) :
    (s.endNotDurable n).pay.rdy = s.pay.rdy := rfl
@[simp] theorem State.endNotDurable_pay_atn (s : State) (n : Nat) :
    (s.endNotDurable n).pay.atn = s.pay.atn := rfl
@[simp] theorem State.endNotDurable_site_state (s : State) (n : Nat) :
    (s.endNotDurable n).site.state = s.site.state := rfl
@[simp] theorem State.endNotDurable_site_dropped (s : State) (n : Nat) :
    (s.endNotDurable n).site.dropped = s.site.dropped := rfl
@[simp] theorem State.endNotDurable_site_address (s : State) (n : Nat) :
    (s.endNotDurable n).site.address = s.site.address := rfl
@[simp] theorem State.endNotDurable_site_siteRead (s : State) (n : Nat) :
    (s.endNotDurable n).site.siteRead = s.site.siteRead := rfl
@[simp] theorem State.endNotDurable_site_atn (s : State) (n : Nat) :
    (s.endNotDurable n).site.atn = s.site.atn := rfl

@[simp] theorem State.enterPark_park_openCount (s : State) (x : ParkState) :
    (s.enterPark x).park.openCount = s.park.openCount := rfl
@[simp] theorem State.enterPark_park_startStep (s : State) (x : ParkState) :
    (s.enterPark x).park.startStep = s.park.startStep := rfl
@[simp] theorem State.enterPark_park_restored (s : State) (x : ParkState) :
    (s.enterPark x).park.restored = s.park.restored := rfl
@[simp] theorem State.enterPark_park_startQuiesced (s : State) (x : ParkState) :
    (s.enterPark x).park.startQuiesced = s.park.startQuiesced := rfl
@[simp] theorem State.enterPark_site_state (s : State) (x : ParkState) :
    (s.enterPark x).site.state = s.site.state := rfl
@[simp] theorem State.enterPark_site_dropped (s : State) (x : ParkState) :
    (s.enterPark x).site.dropped = s.site.dropped := rfl
@[simp] theorem State.enterPark_site_address (s : State) (x : ParkState) :
    (s.enterPark x).site.address = s.site.address := rfl
@[simp] theorem State.enterPark_site_siteRead (s : State) (x : ParkState) :
    (s.enterPark x).site.siteRead = s.site.siteRead := rfl
@[simp] theorem State.enterPark_site_atn (s : State) (x : ParkState) :
    (s.enterPark x).site.atn = s.site.atn := rfl

@[simp] theorem State.payReply_pay_notices (s : State) (kind : Byte) (unread : Bool) (r : Reply) :
    (s.payReply kind unread r).pay.notices = s.pay.notices := rfl
@[simp] theorem State.payReply_pay_window (s : State) (kind : Byte) (unread : Bool) (r : Reply) :
    (s.payReply kind unread r).pay.window = s.pay.window := rfl
@[simp] theorem State.payReply_pay_payDo (s : State) (kind : Byte) (unread : Bool) (r : Reply) :
    (s.payReply kind unread r).pay.payDo = s.pay.payDo := rfl
@[simp] theorem State.payReply_pay_rdy (s : State) (kind : Byte) (unread : Bool) (r : Reply) :
    (s.payReply kind unread r).pay.rdy = s.pay.rdy := rfl
@[simp] theorem State.payReply_pay_atn (s : State) (kind : Byte) (unread : Bool) (r : Reply) :
    (s.payReply kind unread r).pay.atn = s.pay.atn := rfl

@[simp] theorem State.siteReply_site_notices (s : State) (kind : Byte) (unread : Bool) (r : Reply) :
    (s.siteReply kind unread r).site.notices = s.site.notices := rfl
@[simp] theorem State.siteReply_site_address (s : State) (kind : Byte) (unread : Bool) (r : Reply) :
    (s.siteReply kind unread r).site.address = s.site.address := rfl
@[simp] theorem State.siteReply_site_siteRead (s : State) (kind : Byte) (unread : Bool) (r : Reply) :
    (s.siteReply kind unread r).site.siteRead = s.site.siteRead := rfl
@[simp] theorem State.siteReply_site_atn (s : State) (kind : Byte) (unread : Bool) (r : Reply) :
    (s.siteReply kind unread r).site.atn = s.site.atn := rfl

@[simp] theorem State.trackDraw_allot_feeders (s : State) (p : Pedestal) (draw : Nat) :
    (s.trackDraw p draw).allot.feeders = s.allot.feeders := rfl
@[simp] theorem State.trackDraw_allot_siteCeiling (s : State) (p : Pedestal) (draw : Nat) :
    (s.trackDraw p draw).allot.siteCeiling = s.allot.siteCeiling := rfl
@[simp] theorem State.trackDraw_allot_parameters (s : State) (p : Pedestal) (draw : Nat) :
    (s.trackDraw p draw).allot.parameters = s.allot.parameters := rfl

end Sys2Proof.Machine
end

