-- ==== Sys2Proof/Laws/Tables.lean ====
section
/-! SUPPORT. Read-after-write for the tables and for the entries of the blocks: a cell reads as it was
written, and a write leaves every other cell alone. -/

namespace Sys2Proof.Machine
open Sys2Proof

@[simp] theorem cell_putCell_self {α : Type} {n : Nat} (v : Vector α n) (i : Fin n) (x : α) :
    cell (putCell v i x) i = x := by
  simp [cell, putCell]

theorem cell_putCell_of_ne {α : Type} {n : Nat} (v : Vector α n) {i j : Fin n} (x : α)
    (h : j ≠ i) : cell (putCell v i x) j = cell v j := by
  have : i.val ≠ j.val := fun e => h (Fin.ext e.symm)
  simp [cell, putCell, this]

theorem cell_putCell {α : Type} {n : Nat} (v : Vector α n) (i j : Fin n) (x : α) :
    cell (putCell v i x) j = if j = i then x else cell v j := by
  by_cases h : j = i
  · subst h; simp
  · simp [h, cell_putCell_of_ne]

@[simp] theorem cell_mapCells {α β : Type} {n : Nat} (f : Fin n → α → β) (v : Vector α n)
    (i : Fin n) : cell (mapCells f v) i = f i (cell v i) := by
  simp [cell, mapCells]

@[simp] theorem cell_replicate {α : Type} {n : Nat} (x : α) (i : Fin n) :
    cell (Vector.replicate n x) i = x := by
  simp [cell]

/-- Two tables with the same cells are the same table. -/
theorem table_ext {α : Type} {n : Nat} {v w : Vector α n} (h : ∀ i, cell v i = cell w i) : v = w :=
  Vector.ext fun i hi => h ⟨i, hi⟩

@[simp] theorem putCell_cell {α : Type} {n : Nat} (v : Vector α n) (i : Fin n) :
    putCell v i (cell v i) = v := by
  apply table_ext
  intro j
  rw [cell_putCell]
  split <;> simp_all

@[simp] theorem putCell_putCell {α : Type} {n : Nat} (v : Vector α n) (i : Fin n) (x y : α) :
    putCell (putCell v i x) i y = putCell v i y := by
  apply table_ext
  intro j
  simp only [cell_putCell]
  split <;> rfl

/-! ### The pedestals -/

@[simp] theorem mem_pedestals (p : Pedestal) : p ∈ pedestals := by
  revert p; decide

theorem nodup_pedestals : pedestals.Nodup := by decide

/-! ### Session slots -/

@[simp] theorem State.slot_putSlot_self (s : State) (p : Pedestal) (x : SessionSlot) :
    (s.putSlot p x).slot p = x := by
  simp [State.slot, State.putSlot]

theorem State.slot_putSlot_of_ne (s : State) {p q : Pedestal} (x : SessionSlot) (h : q ≠ p) :
    (s.putSlot p x).slot q = s.slot q := by
  simp [State.slot, State.putSlot, cell_putCell_of_ne, h]

theorem State.slot_putSlot (s : State) (p q : Pedestal) (x : SessionSlot) :
    (s.putSlot p x).slot q = if q = p then x else s.slot q := by
  simp [State.slot, State.putSlot, cell_putCell]

@[simp] theorem State.session_putSlot_self (s : State) (p : Pedestal) (x : SessionSlot) :
    (s.putSlot p x).session p = x.session := by
  simp [State.session]

theorem State.session_putSlot_of_ne (s : State) {p q : Pedestal} (x : SessionSlot) (h : q ≠ p) :
    (s.putSlot p x).session q = s.session q := by
  simp [State.session, State.slot_putSlot_of_ne, h]

theorem State.session_putSlot (s : State) (p q : Pedestal) (x : SessionSlot) :
    (s.putSlot p x).session q = if q = p then x.session else s.session q := by
  by_cases h : q = p
  · subst h; simp
  · simp [h, State.session_putSlot_of_ne]

@[simp] theorem State.session_putSession_self (s : State) (p : Pedestal) (x : Session) :
    (s.putSession p x).session p = some x := by
  simp [State.putSession]

theorem State.session_putSession_of_ne (s : State) {p q : Pedestal} (x : Session) (h : q ≠ p) :
    (s.putSession p x).session q = s.session q := by
  simp [State.putSession, State.session_putSlot_of_ne, h]

theorem State.session_putSession (s : State) (p q : Pedestal) (x : Session) :
    (s.putSession p x).session q = if q = p then some x else s.session q := by
  simp [State.putSession, State.session_putSlot]

@[simp] theorem State.slot_putSession_self (s : State) (p : Pedestal) (x : Session) :
    (s.putSession p x).slot p = { s.slot p with session := some x } := by
  simp [State.putSession]

theorem State.slot_putSession_of_ne (s : State) {p q : Pedestal} (x : Session) (h : q ≠ p) :
    (s.putSession p x).slot q = s.slot q := by
  simp [State.putSession, State.slot_putSlot_of_ne, h]

/-! ### Allotment, feeder and loop entries -/

@[simp] theorem State.entry_putEntry_self (s : State) (p : Pedestal) (e : AllotEntry) :
    (s.putEntry p e).entry p = e := by
  simp [State.entry, State.putEntry]

theorem State.entry_putEntry_of_ne (s : State) {p q : Pedestal} (e : AllotEntry) (h : q ≠ p) :
    (s.putEntry p e).entry q = s.entry q := by
  simp [State.entry, State.putEntry, cell_putCell_of_ne, h]

theorem State.entry_putEntry (s : State) (p q : Pedestal) (e : AllotEntry) :
    (s.putEntry p e).entry q = if q = p then e else s.entry q := by
  simp [State.entry, State.putEntry, cell_putCell]

@[simp] theorem State.feeder_putFeeder_self (s : State) (f : Feeder) (e : FeederEntry) :
    (s.putFeeder f e).feeder f = e := by
  simp [State.feeder, State.putFeeder]

theorem Feeder.idx_injective {f g : Feeder} (h : Feeder.idx f = Feeder.idx g) : f = g := by
  cases f <;> cases g <;> first | rfl | exact absurd h (by decide)

theorem State.feeder_putFeeder_of_ne (s : State) {f g : Feeder} (e : FeederEntry) (h : g ≠ f) :
    (s.putFeeder f e).feeder g = s.feeder g := by
  have : Feeder.idx g ≠ Feeder.idx f := fun e => h (Feeder.idx_injective e)
  simp [State.feeder, State.putFeeder, cell_putCell_of_ne, this]

@[simp] theorem State.loopEntry_putLoopEntry_self (s : State) (p : Pedestal) (e : LoopEntry) :
    (s.putLoopEntry p e).loopEntry p = e := by
  simp [State.loopEntry, State.putLoopEntry]

theorem State.loopEntry_putLoopEntry_of_ne (s : State) {p q : Pedestal} (e : LoopEntry)
    (h : q ≠ p) : (s.putLoopEntry p e).loopEntry q = s.loopEntry q := by
  simp [State.loopEntry, State.putLoopEntry, cell_putCell_of_ne, h]

theorem State.loopEntry_putLoopEntry (s : State) (p q : Pedestal) (e : LoopEntry) :
    (s.putLoopEntry p e).loopEntry q = if q = p then e else s.loopEntry q := by
  simp [State.loopEntry, State.putLoopEntry, cell_putCell]

/-! ### Writes over writes -/

@[simp] theorem State.putSlot_putSlot (s : State) (p : Pedestal) (x y : SessionSlot) :
    (s.putSlot p x).putSlot p y = s.putSlot p y := by
  simp [State.putSlot]

@[simp] theorem State.putSession_putSession (s : State) (p : Pedestal) (x y : Session) :
    (s.putSession p x).putSession p y = s.putSession p y := by
  rw [State.putSession, State.slot_putSession_self]
  simp [State.putSession]

@[simp] theorem State.putEntry_putEntry (s : State) (p : Pedestal) (d e : AllotEntry) :
    (s.putEntry p d).putEntry p e = s.putEntry p e := by
  simp [State.putEntry]

@[simp] theorem State.putEntry_entry (s : State) (p : Pedestal) : s.putEntry p (s.entry p) = s := by
  simp [State.putEntry, State.entry]

@[simp] theorem State.putLoopEntry_putLoopEntry (s : State) (p : Pedestal) (d e : LoopEntry) :
    (s.putLoopEntry p d).putLoopEntry p e = s.putLoopEntry p e := by
  simp [State.putLoopEntry]

/-! ### Reads that depend on one table -/

theorem State.slot_congr {s t : State} (h : t.account.slots = s.account.slots) (p : Pedestal) :
    t.slot p = s.slot p := by
  simp [State.slot, h]

theorem State.session_congr {s t : State} (h : t.account.slots = s.account.slots) (p : Pedestal) :
    t.session p = s.session p := by
  simp [State.session, State.slot_congr h]

theorem State.countsForPower_congr {s t : State} {p : Pedestal} (h : t.session p = s.session p) :
    t.countsForPower p = s.countsForPower p := by
  simp [State.countsForPower, h]

theorem State.occupied_congr {s t : State}
    (h : ∀ p, (t.session p).isSome = (s.session p).isSome) : t.occupied = s.occupied := by
  simp only [State.occupied, h]

theorem State.entry_congr {s t : State} (h : t.allot.entries = s.allot.entries) (p : Pedestal) :
    t.entry p = s.entry p := by
  simp [State.entry, h]

theorem State.feeder_congr {s t : State} (h : t.allot.feeders = s.allot.feeders) (f : Feeder) :
    t.feeder f = s.feeder f := by
  simp [State.feeder, h]

theorem State.loopEntry_congr {s t : State} (h : t.loop.entries = s.loop.entries) (p : Pedestal) :
    t.loopEntry p = s.loopEntry p := by
  simp [State.loopEntry, h]

/-! ### The record that a close sequence names -/

theorem updateNamed_split {n : Nat} {before after : List QueueEntry} {e : QueueEntry}
    (f : QueueEntry → QueueEntry) (hb : ∀ y ∈ before, y.closeSequence ≠ n)
    (he : e.closeSequence = n) :
    updateNamed n f (before ++ e :: after) = before ++ f e :: after := by
  induction before with
  | nil => simp [updateNamed, he]
  | cons y rest ih =>
    simp only [List.mem_cons, forall_eq_or_imp] at hb
    simp [updateNamed, hb.1, ih hb.2]

theorem dropNamed_split {n : Nat} {before after : List QueueEntry} {e : QueueEntry}
    (hb : ∀ y ∈ before, y.closeSequence ≠ n) (he : e.closeSequence = n) :
    dropNamed n (before ++ e :: after) = before ++ after := by
  induction before with
  | nil => simp [dropNamed, he]
  | cons y rest ih =>
    simp only [List.mem_cons, forall_eq_or_imp] at hb
    simp [dropNamed, hb.1, ih hb.2]

@[simp] theorem updateNamed_head (n : Nat) (f : QueueEntry → QueueEntry) (e : QueueEntry)
    (rest : List QueueEntry) (he : e.closeSequence = n) :
    updateNamed n f (e :: rest) = f e :: rest := by simp [updateNamed, he]

@[simp] theorem dropNamed_head (n : Nat) (e : QueueEntry) (rest : List QueueEntry)
    (he : e.closeSequence = n) : dropNamed n (e :: rest) = rest := by simp [dropNamed, he]

@[simp] theorem updateNamed_length (n : Nat) (f : QueueEntry → QueueEntry) (q : List QueueEntry) :
    (updateNamed n f q).length = q.length := by
  induction q with
  | nil => rfl
  | cons y rest ih => by_cases h : y.closeSequence = n <;> simp [updateNamed, h, ih]

theorem dropNamed_sublist (n : Nat) (q : List QueueEntry) : (dropNamed n q).Sublist q := by
  induction q with
  | nil => exact List.Sublist.refl _
  | cons y rest ih =>
    by_cases h : y.closeSequence = n
    · simp [dropNamed, h]
    · simpa [dropNamed, h] using ih

/-- A change that keeps `g` of every record keeps the list of them. -/
theorem updateNamed_map {α : Type} (g : QueueEntry → α) (n : Nat) (f : QueueEntry → QueueEntry)
    (hf : ∀ e, g (f e) = g e) (q : List QueueEntry) : (updateNamed n f q).map g = q.map g := by
  induction q with
  | nil => rfl
  | cons y rest ih => by_cases h : y.closeSequence = n <;> simp [updateNamed, h, hf, ih]

/-- A queue holds the record that `queued` names, behind records of other close sequences. -/
theorem State.queued_split {s : State} {n : Nat} {e : QueueEntry} (h : s.queued n = some e) :
    ∃ before after, s.store.queue = before ++ e :: after ∧ e.closeSequence = n
      ∧ ∀ y ∈ before, y.closeSequence ≠ n := by
  obtain ⟨hp, before, after, hq, hb⟩ := List.find?_eq_some_iff_append.mp h
  exact ⟨before, after, hq, by simpa using hp, fun y hy => by simpa using hb y hy⟩

theorem State.queued_of_split {s : State} {n : Nat} {before after : List QueueEntry} {e : QueueEntry}
    (hq : s.store.queue = before ++ e :: after) (he : e.closeSequence = n)
    (hb : ∀ y ∈ before, y.closeSequence ≠ n) : s.queued n = some e :=
  List.find?_eq_some_iff_append.mpr
    ⟨by simpa using he, before, after, hq, fun y hy => by simpa using hb y hy⟩

end Sys2Proof.Machine
end

