-- ==== Sys2Proof/Laws/Frames.lean ====
section
/-! SUPPORT. What each shared operation leaves alone: one frame lemma for each operation, and its
fields as simp lemmas. -/

namespace Sys2Proof.Machine
open Sys2Proof

theorem State.startItem_frame (s : State) (item : WorkItem) :
    (s.startItem item).time = s.time ∧ (s.startItem item).park = s.park ∧
    (s.startItem item).account = s.account ∧ (s.startItem item).allot = s.allot ∧
    (s.startItem item).loop = s.loop ∧ (s.startItem item).meas = s.meas ∧
    (s.startItem item).pay = s.pay ∧ (s.startItem item).site = s.site ∧
    (s.startItem item).resetAsserted = s.resetAsserted ∧ (s.startItem item).addrPin = s.addrPin ∧
    (s.startItem item).pending = s.pending := by
  cases item <;> simp only [State.startItem] <;> (repeat' split) <;> simp

@[simp] theorem State.startItem_time (s : State) (item : WorkItem) :
    (s.startItem item).time = s.time := (s.startItem_frame item).1
@[simp] theorem State.startItem_park (s : State) (item : WorkItem) :
    (s.startItem item).park = s.park := (s.startItem_frame item).2.1
@[simp] theorem State.startItem_account (s : State) (item : WorkItem) :
    (s.startItem item).account = s.account := (s.startItem_frame item).2.2.1
@[simp] theorem State.startItem_allot (s : State) (item : WorkItem) :
    (s.startItem item).allot = s.allot := (s.startItem_frame item).2.2.2.1
@[simp] theorem State.startItem_loop (s : State) (item : WorkItem) :
    (s.startItem item).loop = s.loop := (s.startItem_frame item).2.2.2.2.1
@[simp] theorem State.startItem_meas (s : State) (item : WorkItem) :
    (s.startItem item).meas = s.meas := (s.startItem_frame item).2.2.2.2.2.1
@[simp] theorem State.startItem_pay (s : State) (item : WorkItem) :
    (s.startItem item).pay = s.pay := (s.startItem_frame item).2.2.2.2.2.2.1
@[simp] theorem State.startItem_site (s : State) (item : WorkItem) :
    (s.startItem item).site = s.site := (s.startItem_frame item).2.2.2.2.2.2.2.1
@[simp] theorem State.startItem_resetAsserted (s : State) (item : WorkItem) :
    (s.startItem item).resetAsserted = s.resetAsserted := (s.startItem_frame item).2.2.2.2.2.2.2.2.1
@[simp] theorem State.startItem_addrPin (s : State) (item : WorkItem) :
    (s.startItem item).addrPin = s.addrPin := (s.startItem_frame item).2.2.2.2.2.2.2.2.2.1
@[simp] theorem State.startItem_pending (s : State) (item : WorkItem) :
    (s.startItem item).pending = s.pending := (s.startItem_frame item).2.2.2.2.2.2.2.2.2.2

theorem State.startWork_frame (s : State) :
    s.startWork.time = s.time ∧ s.startWork.park = s.park ∧ s.startWork.account = s.account ∧
    s.startWork.allot = s.allot ∧ s.startWork.loop = s.loop ∧ s.startWork.meas = s.meas ∧
    s.startWork.pay = s.pay ∧ s.startWork.site = s.site ∧
    s.startWork.resetAsserted = s.resetAsserted ∧ s.startWork.addrPin = s.addrPin ∧
    s.startWork.pending = s.pending := by
  unfold State.startWork; split
  · simp
  · (repeat' split) <;> simp

@[simp] theorem State.startWork_time (s : State) : s.startWork.time = s.time := s.startWork_frame.1
@[simp] theorem State.startWork_park (s : State) :
    s.startWork.park = s.park := s.startWork_frame.2.1
@[simp] theorem State.startWork_account (s : State) :
    s.startWork.account = s.account := s.startWork_frame.2.2.1
@[simp] theorem State.startWork_allot (s : State) :
    s.startWork.allot = s.allot := s.startWork_frame.2.2.2.1
@[simp] theorem State.startWork_loop (s : State) :
    s.startWork.loop = s.loop := s.startWork_frame.2.2.2.2.1
@[simp] theorem State.startWork_meas (s : State) :
    s.startWork.meas = s.meas := s.startWork_frame.2.2.2.2.2.1
@[simp] theorem State.startWork_pay (s : State) :
    s.startWork.pay = s.pay := s.startWork_frame.2.2.2.2.2.2.1
@[simp] theorem State.startWork_site (s : State) :
    s.startWork.site = s.site := s.startWork_frame.2.2.2.2.2.2.2.1
@[simp] theorem State.startWork_resetAsserted (s : State) :
    s.startWork.resetAsserted = s.resetAsserted := s.startWork_frame.2.2.2.2.2.2.2.2.1
@[simp] theorem State.startWork_addrPin (s : State) :
    s.startWork.addrPin = s.addrPin := s.startWork_frame.2.2.2.2.2.2.2.2.2.1
@[simp] theorem State.startWork_pending (s : State) :
    s.startWork.pending = s.pending := s.startWork_frame.2.2.2.2.2.2.2.2.2.2

theorem State.finish_frame (s : State) :
    s.finish.time = s.time ∧ s.finish.park = s.park ∧ s.finish.account = s.account ∧
    s.finish.allot = s.allot ∧ s.finish.loop = s.loop ∧ s.finish.meas = s.meas ∧
    s.finish.resetAsserted = s.resetAsserted ∧ s.finish.addrPin = s.addrPin ∧
    s.finish.pending = s.pending := by
  simp [State.finish]

@[simp] theorem State.finish_time (s : State) : s.finish.time = s.time := s.finish_frame.1
@[simp] theorem State.finish_park (s : State) : s.finish.park = s.park := s.finish_frame.2.1
@[simp] theorem State.finish_account (s : State) :
    s.finish.account = s.account := s.finish_frame.2.2.1
@[simp] theorem State.finish_allot (s : State) : s.finish.allot = s.allot := s.finish_frame.2.2.2.1
@[simp] theorem State.finish_loop (s : State) : s.finish.loop = s.loop := s.finish_frame.2.2.2.2.1
@[simp] theorem State.finish_meas (s : State) : s.finish.meas = s.meas := s.finish_frame.2.2.2.2.2.1
@[simp] theorem State.finish_resetAsserted (s : State) :
    s.finish.resetAsserted = s.resetAsserted := s.finish_frame.2.2.2.2.2.2.1
@[simp] theorem State.finish_addrPin (s : State) :
    s.finish.addrPin = s.addrPin := s.finish_frame.2.2.2.2.2.2.2.1
@[simp] theorem State.finish_pending (s : State) :
    s.finish.pending = s.pending := s.finish_frame.2.2.2.2.2.2.2.2

theorem State.testReservation_frame (s : State) :
    s.testReservation.time = s.time ∧ s.testReservation.park = s.park ∧
    s.testReservation.account = s.account ∧ s.testReservation.allot = s.allot ∧
    s.testReservation.loop = s.loop ∧ s.testReservation.meas = s.meas ∧
    s.testReservation.pay = s.pay ∧ s.testReservation.site = s.site ∧
    s.testReservation.resetAsserted = s.resetAsserted ∧ s.testReservation.addrPin = s.addrPin ∧
    s.testReservation.pending = s.pending := by
  unfold State.testReservation; split <;> simp

@[simp] theorem State.testReservation_time (s : State) :
    s.testReservation.time = s.time := s.testReservation_frame.1
@[simp] theorem State.testReservation_park (s : State) :
    s.testReservation.park = s.park := s.testReservation_frame.2.1
@[simp] theorem State.testReservation_account (s : State) :
    s.testReservation.account = s.account := s.testReservation_frame.2.2.1
@[simp] theorem State.testReservation_allot (s : State) :
    s.testReservation.allot = s.allot := s.testReservation_frame.2.2.2.1
@[simp] theorem State.testReservation_loop (s : State) :
    s.testReservation.loop = s.loop := s.testReservation_frame.2.2.2.2.1
@[simp] theorem State.testReservation_meas (s : State) :
    s.testReservation.meas = s.meas := s.testReservation_frame.2.2.2.2.2.1
@[simp] theorem State.testReservation_pay (s : State) :
    s.testReservation.pay = s.pay := s.testReservation_frame.2.2.2.2.2.2.1
@[simp] theorem State.testReservation_site (s : State) :
    s.testReservation.site = s.site := s.testReservation_frame.2.2.2.2.2.2.2.1
@[simp] theorem State.testReservation_resetAsserted (s : State) :
    s.testReservation.resetAsserted = s.resetAsserted := s.testReservation_frame.2.2.2.2.2.2.2.2.1
@[simp] theorem State.testReservation_addrPin (s : State) :
    s.testReservation.addrPin = s.addrPin := s.testReservation_frame.2.2.2.2.2.2.2.2.2.1
@[simp] theorem State.testReservation_pending (s : State) :
    s.testReservation.pending = s.pending := s.testReservation_frame.2.2.2.2.2.2.2.2.2.2

theorem State.takeSlot_frame (s : State) (c : SlotClaim) :
    (s.takeSlot c).time = s.time ∧ (s.takeSlot c).park = s.park ∧
    (s.takeSlot c).account = s.account ∧ (s.takeSlot c).allot = s.allot ∧
    (s.takeSlot c).loop = s.loop ∧ (s.takeSlot c).meas = s.meas ∧ (s.takeSlot c).pay = s.pay ∧
    (s.takeSlot c).site = s.site ∧ (s.takeSlot c).resetAsserted = s.resetAsserted ∧
    (s.takeSlot c).addrPin = s.addrPin ∧ (s.takeSlot c).pending = s.pending := by
  unfold State.takeSlot; split <;> simp

@[simp] theorem State.takeSlot_time (s : State) (c : SlotClaim) :
    (s.takeSlot c).time = s.time := (s.takeSlot_frame c).1
@[simp] theorem State.takeSlot_park (s : State) (c : SlotClaim) :
    (s.takeSlot c).park = s.park := (s.takeSlot_frame c).2.1
@[simp] theorem State.takeSlot_account (s : State) (c : SlotClaim) :
    (s.takeSlot c).account = s.account := (s.takeSlot_frame c).2.2.1
@[simp] theorem State.takeSlot_allot (s : State) (c : SlotClaim) :
    (s.takeSlot c).allot = s.allot := (s.takeSlot_frame c).2.2.2.1
@[simp] theorem State.takeSlot_loop (s : State) (c : SlotClaim) :
    (s.takeSlot c).loop = s.loop := (s.takeSlot_frame c).2.2.2.2.1
@[simp] theorem State.takeSlot_meas (s : State) (c : SlotClaim) :
    (s.takeSlot c).meas = s.meas := (s.takeSlot_frame c).2.2.2.2.2.1
@[simp] theorem State.takeSlot_pay (s : State) (c : SlotClaim) :
    (s.takeSlot c).pay = s.pay := (s.takeSlot_frame c).2.2.2.2.2.2.1
@[simp] theorem State.takeSlot_site (s : State) (c : SlotClaim) :
    (s.takeSlot c).site = s.site := (s.takeSlot_frame c).2.2.2.2.2.2.2.1
@[simp] theorem State.takeSlot_resetAsserted (s : State) (c : SlotClaim) :
    (s.takeSlot c).resetAsserted = s.resetAsserted := (s.takeSlot_frame c).2.2.2.2.2.2.2.2.1
@[simp] theorem State.takeSlot_addrPin (s : State) (c : SlotClaim) :
    (s.takeSlot c).addrPin = s.addrPin := (s.takeSlot_frame c).2.2.2.2.2.2.2.2.2.1
@[simp] theorem State.takeSlot_pending (s : State) (c : SlotClaim) :
    (s.takeSlot c).pending = s.pending := (s.takeSlot_frame c).2.2.2.2.2.2.2.2.2.2

theorem State.reportCount_frame (s : State) :
    s.reportCount.time = s.time ∧ s.reportCount.account = s.account ∧
    s.reportCount.allot = s.allot ∧ s.reportCount.loop = s.loop ∧ s.reportCount.meas = s.meas ∧
    s.reportCount.store = s.store ∧ s.reportCount.pay = s.pay ∧
    s.reportCount.resetAsserted = s.resetAsserted ∧ s.reportCount.addrPin = s.addrPin ∧
    s.reportCount.pending = s.pending := by
  unfold State.reportCount; dsimp only; split <;> simp

@[simp] theorem State.reportCount_time (s : State) :
    s.reportCount.time = s.time := s.reportCount_frame.1
@[simp] theorem State.reportCount_account (s : State) :
    s.reportCount.account = s.account := s.reportCount_frame.2.1
@[simp] theorem State.reportCount_allot (s : State) :
    s.reportCount.allot = s.allot := s.reportCount_frame.2.2.1
@[simp] theorem State.reportCount_loop (s : State) :
    s.reportCount.loop = s.loop := s.reportCount_frame.2.2.2.1
@[simp] theorem State.reportCount_meas (s : State) :
    s.reportCount.meas = s.meas := s.reportCount_frame.2.2.2.2.1
@[simp] theorem State.reportCount_store (s : State) :
    s.reportCount.store = s.store := s.reportCount_frame.2.2.2.2.2.1
@[simp] theorem State.reportCount_pay (s : State) :
    s.reportCount.pay = s.pay := s.reportCount_frame.2.2.2.2.2.2.1
@[simp] theorem State.reportCount_resetAsserted (s : State) :
    s.reportCount.resetAsserted = s.resetAsserted := s.reportCount_frame.2.2.2.2.2.2.2.1
@[simp] theorem State.reportCount_addrPin (s : State) :
    s.reportCount.addrPin = s.addrPin := s.reportCount_frame.2.2.2.2.2.2.2.2.1
@[simp] theorem State.reportCount_pending (s : State) :
    s.reportCount.pending = s.pending := s.reportCount_frame.2.2.2.2.2.2.2.2.2

theorem State.enqueueRecord_frame (s : State) (r : SettlementRecord) :
    (s.enqueueRecord r).time = s.time ∧ (s.enqueueRecord r).park = s.park ∧
    (s.enqueueRecord r).account = s.account ∧ (s.enqueueRecord r).allot = s.allot ∧
    (s.enqueueRecord r).loop = s.loop ∧ (s.enqueueRecord r).meas = s.meas ∧
    (s.enqueueRecord r).resetAsserted = s.resetAsserted ∧ (s.enqueueRecord r).addrPin = s.addrPin ∧
    (s.enqueueRecord r).pending = s.pending := by
  simp only [State.enqueueRecord, State.claimFor]
  cases h : State.chooseSlot _ <;> simp

@[simp] theorem State.enqueueRecord_time (s : State) (r : SettlementRecord) :
    (s.enqueueRecord r).time = s.time := (s.enqueueRecord_frame r).1
@[simp] theorem State.enqueueRecord_park (s : State) (r : SettlementRecord) :
    (s.enqueueRecord r).park = s.park := (s.enqueueRecord_frame r).2.1
@[simp] theorem State.enqueueRecord_account (s : State) (r : SettlementRecord) :
    (s.enqueueRecord r).account = s.account := (s.enqueueRecord_frame r).2.2.1
@[simp] theorem State.enqueueRecord_allot (s : State) (r : SettlementRecord) :
    (s.enqueueRecord r).allot = s.allot := (s.enqueueRecord_frame r).2.2.2.1
@[simp] theorem State.enqueueRecord_loop (s : State) (r : SettlementRecord) :
    (s.enqueueRecord r).loop = s.loop := (s.enqueueRecord_frame r).2.2.2.2.1
@[simp] theorem State.enqueueRecord_meas (s : State) (r : SettlementRecord) :
    (s.enqueueRecord r).meas = s.meas := (s.enqueueRecord_frame r).2.2.2.2.2.1
@[simp] theorem State.enqueueRecord_resetAsserted (s : State) (r : SettlementRecord) :
    (s.enqueueRecord r).resetAsserted = s.resetAsserted := (s.enqueueRecord_frame r).2.2.2.2.2.2.1
@[simp] theorem State.enqueueRecord_addrPin (s : State) (r : SettlementRecord) :
    (s.enqueueRecord r).addrPin = s.addrPin := (s.enqueueRecord_frame r).2.2.2.2.2.2.2.1
@[simp] theorem State.enqueueRecord_pending (s : State) (r : SettlementRecord) :
    (s.enqueueRecord r).pending = s.pending := (s.enqueueRecord_frame r).2.2.2.2.2.2.2.2

theorem State.void_frame (s : State) (p : Pedestal) (refused : Bool) :
    (s.void p refused).time = s.time ∧ (s.void p refused).allot = s.allot ∧
    (s.void p refused).loop = s.loop ∧ (s.void p refused).meas = s.meas ∧
    (s.void p refused).store = s.store ∧ (s.void p refused).pay = s.pay ∧
    (s.void p refused).resetAsserted = s.resetAsserted ∧ (s.void p refused).addrPin = s.addrPin ∧
    (s.void p refused).pending = s.pending := by
  unfold State.void; split <;> simp

@[simp] theorem State.void_time (s : State) (p : Pedestal) (refused : Bool) :
    (s.void p refused).time = s.time := (s.void_frame p refused).1
@[simp] theorem State.void_allot (s : State) (p : Pedestal) (refused : Bool) :
    (s.void p refused).allot = s.allot := (s.void_frame p refused).2.1
@[simp] theorem State.void_loop (s : State) (p : Pedestal) (refused : Bool) :
    (s.void p refused).loop = s.loop := (s.void_frame p refused).2.2.1
@[simp] theorem State.void_meas (s : State) (p : Pedestal) (refused : Bool) :
    (s.void p refused).meas = s.meas := (s.void_frame p refused).2.2.2.1
@[simp] theorem State.void_store (s : State) (p : Pedestal) (refused : Bool) :
    (s.void p refused).store = s.store := (s.void_frame p refused).2.2.2.2.1
@[simp] theorem State.void_pay (s : State) (p : Pedestal) (refused : Bool) :
    (s.void p refused).pay = s.pay := (s.void_frame p refused).2.2.2.2.2.1
@[simp] theorem State.void_resetAsserted (s : State) (p : Pedestal) (refused : Bool) :
    (s.void p refused).resetAsserted = s.resetAsserted := (s.void_frame p refused).2.2.2.2.2.2.1
@[simp] theorem State.void_addrPin (s : State) (p : Pedestal) (refused : Bool) :
    (s.void p refused).addrPin = s.addrPin := (s.void_frame p refused).2.2.2.2.2.2.2.1
@[simp] theorem State.void_pending (s : State) (p : Pedestal) (refused : Bool) :
    (s.void p refused).pending = s.pending := (s.void_frame p refused).2.2.2.2.2.2.2.2

theorem State.close_frame (s : State) (p : Pedestal) (reason : CloseReason) (refused : Bool) :
    (s.close p reason refused).time = s.time ∧ (s.close p reason refused).loop = s.loop ∧
    (s.close p reason refused).meas = s.meas ∧
    (s.close p reason refused).resetAsserted = s.resetAsserted ∧
    (s.close p reason refused).addrPin = s.addrPin ∧
    (s.close p reason refused).pending = s.pending := by
  unfold State.close; split <;> simp

@[simp] theorem State.close_time (s : State) (p : Pedestal) (reason : CloseReason) (refused : Bool) :
    (s.close p reason refused).time = s.time := (s.close_frame p reason refused).1
@[simp] theorem State.close_loop (s : State) (p : Pedestal) (reason : CloseReason) (refused : Bool) :
    (s.close p reason refused).loop = s.loop := (s.close_frame p reason refused).2.1
@[simp] theorem State.close_meas (s : State) (p : Pedestal) (reason : CloseReason) (refused : Bool) :
    (s.close p reason refused).meas = s.meas := (s.close_frame p reason refused).2.2.1
@[simp] theorem State.close_resetAsserted (s : State) (p : Pedestal) (reason : CloseReason) (refused : Bool) :
    (s.close p reason refused).resetAsserted = s.resetAsserted := (s.close_frame p reason refused).2.2.2.1
@[simp] theorem State.close_addrPin (s : State) (p : Pedestal) (reason : CloseReason) (refused : Bool) :
    (s.close p reason refused).addrPin = s.addrPin := (s.close_frame p reason refused).2.2.2.2.1
@[simp] theorem State.close_pending (s : State) (p : Pedestal) (reason : CloseReason) (refused : Bool) :
    (s.close p reason refused).pending = s.pending := (s.close_frame p reason refused).2.2.2.2.2

theorem State.powerFailSlot_frame (s : State) (p : Pedestal) :
    (s.powerFailSlot p).time = s.time ∧ (s.powerFailSlot p).loop = s.loop ∧
    (s.powerFailSlot p).meas = s.meas ∧ (s.powerFailSlot p).resetAsserted = s.resetAsserted ∧
    (s.powerFailSlot p).addrPin = s.addrPin ∧ (s.powerFailSlot p).pending = s.pending := by
  unfold State.powerFailSlot; (repeat' split) <;> simp

@[simp] theorem State.powerFailSlot_time (s : State) (p : Pedestal) :
    (s.powerFailSlot p).time = s.time := (s.powerFailSlot_frame p).1
@[simp] theorem State.powerFailSlot_loop (s : State) (p : Pedestal) :
    (s.powerFailSlot p).loop = s.loop := (s.powerFailSlot_frame p).2.1
@[simp] theorem State.powerFailSlot_meas (s : State) (p : Pedestal) :
    (s.powerFailSlot p).meas = s.meas := (s.powerFailSlot_frame p).2.2.1
@[simp] theorem State.powerFailSlot_resetAsserted (s : State) (p : Pedestal) :
    (s.powerFailSlot p).resetAsserted = s.resetAsserted := (s.powerFailSlot_frame p).2.2.2.1
@[simp] theorem State.powerFailSlot_addrPin (s : State) (p : Pedestal) :
    (s.powerFailSlot p).addrPin = s.addrPin := (s.powerFailSlot_frame p).2.2.2.2.1
@[simp] theorem State.powerFailSlot_pending (s : State) (p : Pedestal) :
    (s.powerFailSlot p).pending = s.pending := (s.powerFailSlot_frame p).2.2.2.2.2

theorem State.enterStopping_frame (s : State) (p : Pedestal) (reason : StopReason) :
    (s.enterStopping p reason).time = s.time ∧ (s.enterStopping p reason).park = s.park ∧
    (s.enterStopping p reason).loop = s.loop ∧ (s.enterStopping p reason).meas = s.meas ∧
    (s.enterStopping p reason).store = s.store ∧ (s.enterStopping p reason).site = s.site ∧
    (s.enterStopping p reason).resetAsserted = s.resetAsserted ∧
    (s.enterStopping p reason).addrPin = s.addrPin ∧
    (s.enterStopping p reason).pending = s.pending := by
  unfold State.enterStopping; split
  · simp
  · dsimp only; split <;> simp

@[simp] theorem State.enterStopping_time (s : State) (p : Pedestal) (reason : StopReason) :
    (s.enterStopping p reason).time = s.time := (s.enterStopping_frame p reason).1
@[simp] theorem State.enterStopping_park (s : State) (p : Pedestal) (reason : StopReason) :
    (s.enterStopping p reason).park = s.park := (s.enterStopping_frame p reason).2.1
@[simp] theorem State.enterStopping_loop (s : State) (p : Pedestal) (reason : StopReason) :
    (s.enterStopping p reason).loop = s.loop := (s.enterStopping_frame p reason).2.2.1
@[simp] theorem State.enterStopping_meas (s : State) (p : Pedestal) (reason : StopReason) :
    (s.enterStopping p reason).meas = s.meas := (s.enterStopping_frame p reason).2.2.2.1
@[simp] theorem State.enterStopping_store (s : State) (p : Pedestal) (reason : StopReason) :
    (s.enterStopping p reason).store = s.store := (s.enterStopping_frame p reason).2.2.2.2.1
@[simp] theorem State.enterStopping_site (s : State) (p : Pedestal) (reason : StopReason) :
    (s.enterStopping p reason).site = s.site := (s.enterStopping_frame p reason).2.2.2.2.2.1
@[simp] theorem State.enterStopping_resetAsserted (s : State) (p : Pedestal) (reason : StopReason) :
    (s.enterStopping p reason).resetAsserted = s.resetAsserted := (s.enterStopping_frame p reason).2.2.2.2.2.2.1
@[simp] theorem State.enterStopping_addrPin (s : State) (p : Pedestal) (reason : StopReason) :
    (s.enterStopping p reason).addrPin = s.addrPin := (s.enterStopping_frame p reason).2.2.2.2.2.2.2.1
@[simp] theorem State.enterStopping_pending (s : State) (p : Pedestal) (reason : StopReason) :
    (s.enterStopping p reason).pending = s.pending := (s.enterStopping_frame p reason).2.2.2.2.2.2.2.2

theorem State.enterParked_frame (s : State) (p : Pedestal) (by_ : ParkedBy) :
    (s.enterParked p by_).time = s.time ∧ (s.enterParked p by_).park = s.park ∧
    (s.enterParked p by_).loop = s.loop ∧ (s.enterParked p by_).meas = s.meas ∧
    (s.enterParked p by_).store = s.store ∧ (s.enterParked p by_).pay = s.pay ∧
    (s.enterParked p by_).site = s.site ∧ (s.enterParked p by_).resetAsserted = s.resetAsserted ∧
    (s.enterParked p by_).addrPin = s.addrPin ∧ (s.enterParked p by_).pending = s.pending := by
  unfold State.enterParked; split <;> simp

@[simp] theorem State.enterParked_time (s : State) (p : Pedestal) (by_ : ParkedBy) :
    (s.enterParked p by_).time = s.time := (s.enterParked_frame p by_).1
@[simp] theorem State.enterParked_park (s : State) (p : Pedestal) (by_ : ParkedBy) :
    (s.enterParked p by_).park = s.park := (s.enterParked_frame p by_).2.1
@[simp] theorem State.enterParked_loop (s : State) (p : Pedestal) (by_ : ParkedBy) :
    (s.enterParked p by_).loop = s.loop := (s.enterParked_frame p by_).2.2.1
@[simp] theorem State.enterParked_meas (s : State) (p : Pedestal) (by_ : ParkedBy) :
    (s.enterParked p by_).meas = s.meas := (s.enterParked_frame p by_).2.2.2.1
@[simp] theorem State.enterParked_store (s : State) (p : Pedestal) (by_ : ParkedBy) :
    (s.enterParked p by_).store = s.store := (s.enterParked_frame p by_).2.2.2.2.1
@[simp] theorem State.enterParked_pay (s : State) (p : Pedestal) (by_ : ParkedBy) :
    (s.enterParked p by_).pay = s.pay := (s.enterParked_frame p by_).2.2.2.2.2.1
@[simp] theorem State.enterParked_site (s : State) (p : Pedestal) (by_ : ParkedBy) :
    (s.enterParked p by_).site = s.site := (s.enterParked_frame p by_).2.2.2.2.2.2.1
@[simp] theorem State.enterParked_resetAsserted (s : State) (p : Pedestal) (by_ : ParkedBy) :
    (s.enterParked p by_).resetAsserted = s.resetAsserted := (s.enterParked_frame p by_).2.2.2.2.2.2.2.1
@[simp] theorem State.enterParked_addrPin (s : State) (p : Pedestal) (by_ : ParkedBy) :
    (s.enterParked p by_).addrPin = s.addrPin := (s.enterParked_frame p by_).2.2.2.2.2.2.2.2.1
@[simp] theorem State.enterParked_pending (s : State) (p : Pedestal) (by_ : ParkedBy) :
    (s.enterParked p by_).pending = s.pending := (s.enterParked_frame p by_).2.2.2.2.2.2.2.2.2

theorem State.revive_frame (s : State) (p : Pedestal) (x : Session) :
    (s.revive p x).time = s.time ∧ (s.revive p x).park = s.park ∧ (s.revive p x).loop = s.loop ∧
    (s.revive p x).meas = s.meas ∧ (s.revive p x).store = s.store ∧ (s.revive p x).site = s.site ∧
    (s.revive p x).resetAsserted = s.resetAsserted ∧ (s.revive p x).addrPin = s.addrPin ∧
    (s.revive p x).pending = s.pending := by
  unfold State.revive; split <;> simp

@[simp] theorem State.revive_time (s : State) (p : Pedestal) (x : Session) :
    (s.revive p x).time = s.time := (s.revive_frame p x).1
@[simp] theorem State.revive_park (s : State) (p : Pedestal) (x : Session) :
    (s.revive p x).park = s.park := (s.revive_frame p x).2.1
@[simp] theorem State.revive_loop (s : State) (p : Pedestal) (x : Session) :
    (s.revive p x).loop = s.loop := (s.revive_frame p x).2.2.1
@[simp] theorem State.revive_meas (s : State) (p : Pedestal) (x : Session) :
    (s.revive p x).meas = s.meas := (s.revive_frame p x).2.2.2.1
@[simp] theorem State.revive_store (s : State) (p : Pedestal) (x : Session) :
    (s.revive p x).store = s.store := (s.revive_frame p x).2.2.2.2.1
@[simp] theorem State.revive_site (s : State) (p : Pedestal) (x : Session) :
    (s.revive p x).site = s.site := (s.revive_frame p x).2.2.2.2.2.1
@[simp] theorem State.revive_resetAsserted (s : State) (p : Pedestal) (x : Session) :
    (s.revive p x).resetAsserted = s.resetAsserted := (s.revive_frame p x).2.2.2.2.2.2.1
@[simp] theorem State.revive_addrPin (s : State) (p : Pedestal) (x : Session) :
    (s.revive p x).addrPin = s.addrPin := (s.revive_frame p x).2.2.2.2.2.2.2.1
@[simp] theorem State.revive_pending (s : State) (p : Pedestal) (x : Session) :
    (s.revive p x).pending = s.pending := (s.revive_frame p x).2.2.2.2.2.2.2.2

theorem State.openSession_frame (s : State) (p : Pedestal) (reading : Nat) (stamp : Word32) :
    (s.openSession p reading stamp).time = s.time ∧
    (s.openSession p reading stamp).allot = s.allot ∧
    (s.openSession p reading stamp).loop = s.loop ∧ (s.openSession p reading stamp).meas = s.meas ∧
    (s.openSession p reading stamp).pay = s.pay ∧
    (s.openSession p reading stamp).resetAsserted = s.resetAsserted ∧
    (s.openSession p reading stamp).addrPin = s.addrPin ∧
    (s.openSession p reading stamp).pending = s.pending := by
  simp [State.openSession]

@[simp] theorem State.openSession_time (s : State) (p : Pedestal) (reading : Nat) (stamp : Word32) :
    (s.openSession p reading stamp).time = s.time := (s.openSession_frame p reading stamp).1
@[simp] theorem State.openSession_allot (s : State) (p : Pedestal) (reading : Nat) (stamp : Word32) :
    (s.openSession p reading stamp).allot = s.allot := (s.openSession_frame p reading stamp).2.1
@[simp] theorem State.openSession_loop (s : State) (p : Pedestal) (reading : Nat) (stamp : Word32) :
    (s.openSession p reading stamp).loop = s.loop := (s.openSession_frame p reading stamp).2.2.1
@[simp] theorem State.openSession_meas (s : State) (p : Pedestal) (reading : Nat) (stamp : Word32) :
    (s.openSession p reading stamp).meas = s.meas := (s.openSession_frame p reading stamp).2.2.2.1
@[simp] theorem State.openSession_pay (s : State) (p : Pedestal) (reading : Nat) (stamp : Word32) :
    (s.openSession p reading stamp).pay = s.pay := (s.openSession_frame p reading stamp).2.2.2.2.1
@[simp] theorem State.openSession_resetAsserted (s : State) (p : Pedestal) (reading : Nat) (stamp : Word32) :
    (s.openSession p reading stamp).resetAsserted = s.resetAsserted := (s.openSession_frame p reading stamp).2.2.2.2.2.1
@[simp] theorem State.openSession_addrPin (s : State) (p : Pedestal) (reading : Nat) (stamp : Word32) :
    (s.openSession p reading stamp).addrPin = s.addrPin := (s.openSession_frame p reading stamp).2.2.2.2.2.2.1
@[simp] theorem State.openSession_pending (s : State) (p : Pedestal) (reading : Nat) (stamp : Word32) :
    (s.openSession p reading stamp).pending = s.pending := (s.openSession_frame p reading stamp).2.2.2.2.2.2.2

theorem State.refuseOpening_frame (s : State) (p : Pedestal) :
    (s.refuseOpening p).time = s.time ∧ (s.refuseOpening p).park = s.park ∧
    (s.refuseOpening p).allot = s.allot ∧ (s.refuseOpening p).loop = s.loop ∧
    (s.refuseOpening p).meas = s.meas ∧ (s.refuseOpening p).pay = s.pay ∧
    (s.refuseOpening p).site = s.site ∧ (s.refuseOpening p).resetAsserted = s.resetAsserted ∧
    (s.refuseOpening p).addrPin = s.addrPin ∧ (s.refuseOpening p).pending = s.pending := by
  unfold State.refuseOpening; dsimp only; split <;> simp

@[simp] theorem State.refuseOpening_time (s : State) (p : Pedestal) :
    (s.refuseOpening p).time = s.time := (s.refuseOpening_frame p).1
@[simp] theorem State.refuseOpening_park (s : State) (p : Pedestal) :
    (s.refuseOpening p).park = s.park := (s.refuseOpening_frame p).2.1
@[simp] theorem State.refuseOpening_allot (s : State) (p : Pedestal) :
    (s.refuseOpening p).allot = s.allot := (s.refuseOpening_frame p).2.2.1
@[simp] theorem State.refuseOpening_loop (s : State) (p : Pedestal) :
    (s.refuseOpening p).loop = s.loop := (s.refuseOpening_frame p).2.2.2.1
@[simp] theorem State.refuseOpening_meas (s : State) (p : Pedestal) :
    (s.refuseOpening p).meas = s.meas := (s.refuseOpening_frame p).2.2.2.2.1
@[simp] theorem State.refuseOpening_pay (s : State) (p : Pedestal) :
    (s.refuseOpening p).pay = s.pay := (s.refuseOpening_frame p).2.2.2.2.2.1
@[simp] theorem State.refuseOpening_site (s : State) (p : Pedestal) :
    (s.refuseOpening p).site = s.site := (s.refuseOpening_frame p).2.2.2.2.2.2.1
@[simp] theorem State.refuseOpening_resetAsserted (s : State) (p : Pedestal) :
    (s.refuseOpening p).resetAsserted = s.resetAsserted := (s.refuseOpening_frame p).2.2.2.2.2.2.2.1
@[simp] theorem State.refuseOpening_addrPin (s : State) (p : Pedestal) :
    (s.refuseOpening p).addrPin = s.addrPin := (s.refuseOpening_frame p).2.2.2.2.2.2.2.2.1
@[simp] theorem State.refuseOpening_pending (s : State) (p : Pedestal) :
    (s.refuseOpening p).pending = s.pending := (s.refuseOpening_frame p).2.2.2.2.2.2.2.2.2

theorem State.billSession_frame (s : State) (p : Pedestal) (x : Session) (reading : Nat) (stamp : Word32) :
    (s.billSession p x reading stamp).time = s.time ∧
    (s.billSession p x reading stamp).park = s.park ∧
    (s.billSession p x reading stamp).loop = s.loop ∧
    (s.billSession p x reading stamp).meas = s.meas ∧
    (s.billSession p x reading stamp).store = s.store ∧
    (s.billSession p x reading stamp).resetAsserted = s.resetAsserted ∧
    (s.billSession p x reading stamp).addrPin = s.addrPin ∧
    (s.billSession p x reading stamp).pending = s.pending := by
  unfold State.billSession; dsimp only; (repeat' split) <;> simp

@[simp] theorem State.billSession_time (s : State) (p : Pedestal) (x : Session) (reading : Nat) (stamp : Word32) :
    (s.billSession p x reading stamp).time = s.time := (s.billSession_frame p x reading stamp).1
@[simp] theorem State.billSession_park (s : State) (p : Pedestal) (x : Session) (reading : Nat) (stamp : Word32) :
    (s.billSession p x reading stamp).park = s.park := (s.billSession_frame p x reading stamp).2.1
@[simp] theorem State.billSession_loop (s : State) (p : Pedestal) (x : Session) (reading : Nat) (stamp : Word32) :
    (s.billSession p x reading stamp).loop = s.loop := (s.billSession_frame p x reading stamp).2.2.1
@[simp] theorem State.billSession_meas (s : State) (p : Pedestal) (x : Session) (reading : Nat) (stamp : Word32) :
    (s.billSession p x reading stamp).meas = s.meas := (s.billSession_frame p x reading stamp).2.2.2.1
@[simp] theorem State.billSession_store (s : State) (p : Pedestal) (x : Session) (reading : Nat) (stamp : Word32) :
    (s.billSession p x reading stamp).store = s.store := (s.billSession_frame p x reading stamp).2.2.2.2.1
@[simp] theorem State.billSession_resetAsserted (s : State) (p : Pedestal) (x : Session) (reading : Nat) (stamp : Word32) :
    (s.billSession p x reading stamp).resetAsserted = s.resetAsserted := (s.billSession_frame p x reading stamp).2.2.2.2.2.1
@[simp] theorem State.billSession_addrPin (s : State) (p : Pedestal) (x : Session) (reading : Nat) (stamp : Word32) :
    (s.billSession p x reading stamp).addrPin = s.addrPin := (s.billSession_frame p x reading stamp).2.2.2.2.2.2.1
@[simp] theorem State.billSession_pending (s : State) (p : Pedestal) (x : Session) (reading : Nat) (stamp : Word32) :
    (s.billSession p x reading stamp).pending = s.pending := (s.billSession_frame p x reading stamp).2.2.2.2.2.2.2

theorem State.takeReading_frame (s : State) (p : Pedestal) (reading : Nat) (stamp : Word32) :
    (s.takeReading p reading stamp).time = s.time ∧ (s.takeReading p reading stamp).park = s.park ∧
    (s.takeReading p reading stamp).loop = s.loop ∧ (s.takeReading p reading stamp).meas = s.meas ∧
    (s.takeReading p reading stamp).store = s.store ∧
    (s.takeReading p reading stamp).resetAsserted = s.resetAsserted ∧
    (s.takeReading p reading stamp).addrPin = s.addrPin ∧
    (s.takeReading p reading stamp).pending = s.pending := by
  unfold State.takeReading; dsimp only; split
  · simp
  · split <;> simp

@[simp] theorem State.takeReading_time (s : State) (p : Pedestal) (reading : Nat) (stamp : Word32) :
    (s.takeReading p reading stamp).time = s.time := (s.takeReading_frame p reading stamp).1
@[simp] theorem State.takeReading_park (s : State) (p : Pedestal) (reading : Nat) (stamp : Word32) :
    (s.takeReading p reading stamp).park = s.park := (s.takeReading_frame p reading stamp).2.1
@[simp] theorem State.takeReading_loop (s : State) (p : Pedestal) (reading : Nat) (stamp : Word32) :
    (s.takeReading p reading stamp).loop = s.loop := (s.takeReading_frame p reading stamp).2.2.1
@[simp] theorem State.takeReading_meas (s : State) (p : Pedestal) (reading : Nat) (stamp : Word32) :
    (s.takeReading p reading stamp).meas = s.meas := (s.takeReading_frame p reading stamp).2.2.2.1
@[simp] theorem State.takeReading_store (s : State) (p : Pedestal) (reading : Nat) (stamp : Word32) :
    (s.takeReading p reading stamp).store = s.store := (s.takeReading_frame p reading stamp).2.2.2.2.1
@[simp] theorem State.takeReading_resetAsserted (s : State) (p : Pedestal) (reading : Nat) (stamp : Word32) :
    (s.takeReading p reading stamp).resetAsserted = s.resetAsserted := (s.takeReading_frame p reading stamp).2.2.2.2.2.1
@[simp] theorem State.takeReading_addrPin (s : State) (p : Pedestal) (reading : Nat) (stamp : Word32) :
    (s.takeReading p reading stamp).addrPin = s.addrPin := (s.takeReading_frame p reading stamp).2.2.2.2.2.2.1
@[simp] theorem State.takeReading_pending (s : State) (p : Pedestal) (reading : Nat) (stamp : Word32) :
    (s.takeReading p reading stamp).pending = s.pending := (s.takeReading_frame p reading stamp).2.2.2.2.2.2.2

theorem State.reportFree_frame (s : State) (p : Pedestal) (r : Report) (stamp : Word32) :
    (s.reportFree p r stamp).time = s.time ∧ (s.reportFree p r stamp).allot = s.allot ∧
    (s.reportFree p r stamp).loop = s.loop ∧ (s.reportFree p r stamp).meas = s.meas ∧
    (s.reportFree p r stamp).pay = s.pay ∧
    (s.reportFree p r stamp).resetAsserted = s.resetAsserted ∧
    (s.reportFree p r stamp).addrPin = s.addrPin ∧
    (s.reportFree p r stamp).pending = s.pending := by
  unfold State.reportFree; (repeat' split) <;> simp

@[simp] theorem State.reportFree_time (s : State) (p : Pedestal) (r : Report) (stamp : Word32) :
    (s.reportFree p r stamp).time = s.time := (s.reportFree_frame p r stamp).1
@[simp] theorem State.reportFree_allot (s : State) (p : Pedestal) (r : Report) (stamp : Word32) :
    (s.reportFree p r stamp).allot = s.allot := (s.reportFree_frame p r stamp).2.1
@[simp] theorem State.reportFree_loop (s : State) (p : Pedestal) (r : Report) (stamp : Word32) :
    (s.reportFree p r stamp).loop = s.loop := (s.reportFree_frame p r stamp).2.2.1
@[simp] theorem State.reportFree_meas (s : State) (p : Pedestal) (r : Report) (stamp : Word32) :
    (s.reportFree p r stamp).meas = s.meas := (s.reportFree_frame p r stamp).2.2.2.1
@[simp] theorem State.reportFree_pay (s : State) (p : Pedestal) (r : Report) (stamp : Word32) :
    (s.reportFree p r stamp).pay = s.pay := (s.reportFree_frame p r stamp).2.2.2.2.1
@[simp] theorem State.reportFree_resetAsserted (s : State) (p : Pedestal) (r : Report) (stamp : Word32) :
    (s.reportFree p r stamp).resetAsserted = s.resetAsserted := (s.reportFree_frame p r stamp).2.2.2.2.2.1
@[simp] theorem State.reportFree_addrPin (s : State) (p : Pedestal) (r : Report) (stamp : Word32) :
    (s.reportFree p r stamp).addrPin = s.addrPin := (s.reportFree_frame p r stamp).2.2.2.2.2.2.1
@[simp] theorem State.reportFree_pending (s : State) (p : Pedestal) (r : Report) (stamp : Word32) :
    (s.reportFree p r stamp).pending = s.pending := (s.reportFree_frame p r stamp).2.2.2.2.2.2.2

theorem State.reportCharging_frame (s : State) (p : Pedestal) (r : Report) :
    (s.reportCharging p r).time = s.time ∧ (s.reportCharging p r).loop = s.loop ∧
    (s.reportCharging p r).meas = s.meas ∧ (s.reportCharging p r).resetAsserted = s.resetAsserted ∧
    (s.reportCharging p r).addrPin = s.addrPin ∧ (s.reportCharging p r).pending = s.pending := by
  unfold State.reportCharging; (repeat' split) <;> simp

@[simp] theorem State.reportCharging_time (s : State) (p : Pedestal) (r : Report) :
    (s.reportCharging p r).time = s.time := (s.reportCharging_frame p r).1
@[simp] theorem State.reportCharging_loop (s : State) (p : Pedestal) (r : Report) :
    (s.reportCharging p r).loop = s.loop := (s.reportCharging_frame p r).2.1
@[simp] theorem State.reportCharging_meas (s : State) (p : Pedestal) (r : Report) :
    (s.reportCharging p r).meas = s.meas := (s.reportCharging_frame p r).2.2.1
@[simp] theorem State.reportCharging_resetAsserted (s : State) (p : Pedestal) (r : Report) :
    (s.reportCharging p r).resetAsserted = s.resetAsserted := (s.reportCharging_frame p r).2.2.2.1
@[simp] theorem State.reportCharging_addrPin (s : State) (p : Pedestal) (r : Report) :
    (s.reportCharging p r).addrPin = s.addrPin := (s.reportCharging_frame p r).2.2.2.2.1
@[simp] theorem State.reportCharging_pending (s : State) (p : Pedestal) (r : Report) :
    (s.reportCharging p r).pending = s.pending := (s.reportCharging_frame p r).2.2.2.2.2

theorem State.reportStopping_frame (s : State) (p : Pedestal) (x : Session) (r : Report) :
    (s.reportStopping p x r).time = s.time ∧ (s.reportStopping p x r).loop = s.loop ∧
    (s.reportStopping p x r).meas = s.meas ∧
    (s.reportStopping p x r).resetAsserted = s.resetAsserted ∧
    (s.reportStopping p x r).addrPin = s.addrPin ∧
    (s.reportStopping p x r).pending = s.pending := by
  unfold State.reportStopping; (repeat' split) <;> simp

@[simp] theorem State.reportStopping_time (s : State) (p : Pedestal) (x : Session) (r : Report) :
    (s.reportStopping p x r).time = s.time := (s.reportStopping_frame p x r).1
@[simp] theorem State.reportStopping_loop (s : State) (p : Pedestal) (x : Session) (r : Report) :
    (s.reportStopping p x r).loop = s.loop := (s.reportStopping_frame p x r).2.1
@[simp] theorem State.reportStopping_meas (s : State) (p : Pedestal) (x : Session) (r : Report) :
    (s.reportStopping p x r).meas = s.meas := (s.reportStopping_frame p x r).2.2.1
@[simp] theorem State.reportStopping_resetAsserted (s : State) (p : Pedestal) (x : Session) (r : Report) :
    (s.reportStopping p x r).resetAsserted = s.resetAsserted := (s.reportStopping_frame p x r).2.2.2.1
@[simp] theorem State.reportStopping_addrPin (s : State) (p : Pedestal) (x : Session) (r : Report) :
    (s.reportStopping p x r).addrPin = s.addrPin := (s.reportStopping_frame p x r).2.2.2.2.1
@[simp] theorem State.reportStopping_pending (s : State) (p : Pedestal) (x : Session) (r : Report) :
    (s.reportStopping p x r).pending = s.pending := (s.reportStopping_frame p x r).2.2.2.2.2

theorem State.reportParked_frame (s : State) (p : Pedestal) (x : Session) (r : Report) :
    (s.reportParked p x r).time = s.time ∧ (s.reportParked p x r).loop = s.loop ∧
    (s.reportParked p x r).meas = s.meas ∧ (s.reportParked p x r).resetAsserted = s.resetAsserted ∧
    (s.reportParked p x r).addrPin = s.addrPin ∧ (s.reportParked p x r).pending = s.pending := by
  unfold State.reportParked; (repeat' split) <;> simp

@[simp] theorem State.reportParked_time (s : State) (p : Pedestal) (x : Session) (r : Report) :
    (s.reportParked p x r).time = s.time := (s.reportParked_frame p x r).1
@[simp] theorem State.reportParked_loop (s : State) (p : Pedestal) (x : Session) (r : Report) :
    (s.reportParked p x r).loop = s.loop := (s.reportParked_frame p x r).2.1
@[simp] theorem State.reportParked_meas (s : State) (p : Pedestal) (x : Session) (r : Report) :
    (s.reportParked p x r).meas = s.meas := (s.reportParked_frame p x r).2.2.1
@[simp] theorem State.reportParked_resetAsserted (s : State) (p : Pedestal) (x : Session) (r : Report) :
    (s.reportParked p x r).resetAsserted = s.resetAsserted := (s.reportParked_frame p x r).2.2.2.1
@[simp] theorem State.reportParked_addrPin (s : State) (p : Pedestal) (x : Session) (r : Report) :
    (s.reportParked p x r).addrPin = s.addrPin := (s.reportParked_frame p x r).2.2.2.2.1
@[simp] theorem State.reportParked_pending (s : State) (p : Pedestal) (x : Session) (r : Report) :
    (s.reportParked p x r).pending = s.pending := (s.reportParked_frame p x r).2.2.2.2.2

theorem State.applyReport_frame (s : State) (p : Pedestal) (r : Report) (stamp : Word32) :
    (s.applyReport p r stamp).time = s.time ∧ (s.applyReport p r stamp).loop = s.loop ∧
    (s.applyReport p r stamp).meas = s.meas ∧
    (s.applyReport p r stamp).resetAsserted = s.resetAsserted ∧
    (s.applyReport p r stamp).addrPin = s.addrPin ∧
    (s.applyReport p r stamp).pending = s.pending := by
  unfold State.applyReport; (repeat' split) <;> simp

@[simp] theorem State.applyReport_time (s : State) (p : Pedestal) (r : Report) (stamp : Word32) :
    (s.applyReport p r stamp).time = s.time := (s.applyReport_frame p r stamp).1
@[simp] theorem State.applyReport_loop (s : State) (p : Pedestal) (r : Report) (stamp : Word32) :
    (s.applyReport p r stamp).loop = s.loop := (s.applyReport_frame p r stamp).2.1
@[simp] theorem State.applyReport_meas (s : State) (p : Pedestal) (r : Report) (stamp : Word32) :
    (s.applyReport p r stamp).meas = s.meas := (s.applyReport_frame p r stamp).2.2.1
@[simp] theorem State.applyReport_resetAsserted (s : State) (p : Pedestal) (r : Report) (stamp : Word32) :
    (s.applyReport p r stamp).resetAsserted = s.resetAsserted := (s.applyReport_frame p r stamp).2.2.2.1
@[simp] theorem State.applyReport_addrPin (s : State) (p : Pedestal) (r : Report) (stamp : Word32) :
    (s.applyReport p r stamp).addrPin = s.addrPin := (s.applyReport_frame p r stamp).2.2.2.2.1
@[simp] theorem State.applyReport_pending (s : State) (p : Pedestal) (r : Report) (stamp : Word32) :
    (s.applyReport p r stamp).pending = s.pending := (s.applyReport_frame p r stamp).2.2.2.2.2

theorem State.readAndApply_frame (s : State) (p : Pedestal) (r : Report) (stamp : Word32) :
    (s.readAndApply p r stamp).time = s.time ∧
    (s.readAndApply p r stamp).loop = s.loop ∧
    (s.readAndApply p r stamp).meas = s.meas ∧
    (s.readAndApply p r stamp).resetAsserted = s.resetAsserted ∧
    (s.readAndApply p r stamp).addrPin = s.addrPin ∧
    (s.readAndApply p r stamp).pending = s.pending := by
  simp [State.readAndApply]

@[simp] theorem State.readAndApply_time (s : State) (p : Pedestal) (r : Report) (stamp : Word32) :
    (s.readAndApply p r stamp).time = s.time := (s.readAndApply_frame p r stamp).1
@[simp] theorem State.readAndApply_loop (s : State) (p : Pedestal) (r : Report) (stamp : Word32) :
    (s.readAndApply p r stamp).loop = s.loop := (s.readAndApply_frame p r stamp).2.1
@[simp] theorem State.readAndApply_meas (s : State) (p : Pedestal) (r : Report) (stamp : Word32) :
    (s.readAndApply p r stamp).meas = s.meas := (s.readAndApply_frame p r stamp).2.2.1
@[simp] theorem State.readAndApply_resetAsserted (s : State) (p : Pedestal) (r : Report) (stamp : Word32) :
    (s.readAndApply p r stamp).resetAsserted = s.resetAsserted := (s.readAndApply_frame p r stamp).2.2.2.1
@[simp] theorem State.readAndApply_addrPin (s : State) (p : Pedestal) (r : Report) (stamp : Word32) :
    (s.readAndApply p r stamp).addrPin = s.addrPin := (s.readAndApply_frame p r stamp).2.2.2.2.1
@[simp] theorem State.readAndApply_pending (s : State) (p : Pedestal) (r : Report) (stamp : Word32) :
    (s.readAndApply p r stamp).pending = s.pending := (s.readAndApply_frame p r stamp).2.2.2.2.2

theorem State.treatReport_frame (s : State) (p : Pedestal) (r : Report) (stamp : Word32) :
    (s.treatReport p r stamp).time = s.time ∧ (s.treatReport p r stamp).loop = s.loop ∧
    (s.treatReport p r stamp).meas = s.meas ∧
    (s.treatReport p r stamp).resetAsserted = s.resetAsserted ∧
    (s.treatReport p r stamp).addrPin = s.addrPin ∧
    (s.treatReport p r stamp).pending = s.pending := by
  simp [State.treatReport]

@[simp] theorem State.treatReport_time (s : State) (p : Pedestal) (r : Report) (stamp : Word32) :
    (s.treatReport p r stamp).time = s.time := (s.treatReport_frame p r stamp).1
@[simp] theorem State.treatReport_loop (s : State) (p : Pedestal) (r : Report) (stamp : Word32) :
    (s.treatReport p r stamp).loop = s.loop := (s.treatReport_frame p r stamp).2.1
@[simp] theorem State.treatReport_meas (s : State) (p : Pedestal) (r : Report) (stamp : Word32) :
    (s.treatReport p r stamp).meas = s.meas := (s.treatReport_frame p r stamp).2.2.1
@[simp] theorem State.treatReport_resetAsserted (s : State) (p : Pedestal) (r : Report) (stamp : Word32) :
    (s.treatReport p r stamp).resetAsserted = s.resetAsserted := (s.treatReport_frame p r stamp).2.2.2.1
@[simp] theorem State.treatReport_addrPin (s : State) (p : Pedestal) (r : Report) (stamp : Word32) :
    (s.treatReport p r stamp).addrPin = s.addrPin := (s.treatReport_frame p r stamp).2.2.2.2.1
@[simp] theorem State.treatReport_pending (s : State) (p : Pedestal) (r : Report) (stamp : Word32) :
    (s.treatReport p r stamp).pending = s.pending := (s.treatReport_frame p r stamp).2.2.2.2.2

end Sys2Proof.Machine
end

