-- ==== Sys2Proof/Laws/Reads.lean ====
section
/-! SUPPORT. The reads of one entry (a session slot, an allotment, feeder or loop entry) through every
update that does not write its table. -/

namespace Sys2Proof.Machine
open Sys2Proof

theorem State.sessionNumber_congr {s t : State} {p : Pedestal} (h : t.session p = s.session p) :
    t.sessionNumber p = s.sessionNumber p := by
  simp [State.sessionNumber, h]

/-! `State.putSlot` -/

@[simp] theorem State.entry_putSlot (s : State) (p : Pedestal) (x : SessionSlot) (q : Pedestal) :
    (s.putSlot p x).entry q = s.entry q :=
  State.entry_congr (congrArg (·.entries) (State.putSlot_allot s p x)) q
@[simp] theorem State.feeder_putSlot (s : State) (p : Pedestal) (x : SessionSlot) (g : Feeder) :
    (s.putSlot p x).feeder g = s.feeder g :=
  State.feeder_congr (congrArg (·.feeders) (State.putSlot_allot s p x)) g
@[simp] theorem State.loopEntry_putSlot (s : State) (p : Pedestal) (x : SessionSlot) (q : Pedestal) :
    (s.putSlot p x).loopEntry q = s.loopEntry q :=
  State.loopEntry_congr (congrArg (·.entries) (State.putSlot_loop s p x)) q

/-! `State.putSession` -/

@[simp] theorem State.entry_putSession (s : State) (p : Pedestal) (x : Session) (q : Pedestal) :
    (s.putSession p x).entry q = s.entry q :=
  State.entry_congr (congrArg (·.entries) (State.putSession_allot s p x)) q
@[simp] theorem State.feeder_putSession (s : State) (p : Pedestal) (x : Session) (g : Feeder) :
    (s.putSession p x).feeder g = s.feeder g :=
  State.feeder_congr (congrArg (·.feeders) (State.putSession_allot s p x)) g
@[simp] theorem State.loopEntry_putSession (s : State) (p : Pedestal) (x : Session) (q : Pedestal) :
    (s.putSession p x).loopEntry q = s.loopEntry q :=
  State.loopEntry_congr (congrArg (·.entries) (State.putSession_loop s p x)) q

/-! `State.putEntry` -/

@[simp] theorem State.slot_putEntry (s : State) (p : Pedestal) (e : AllotEntry) (q : Pedestal) :
    (s.putEntry p e).slot q = s.slot q :=
  State.slot_congr (congrArg (·.slots) (State.putEntry_account s p e)) q
@[simp] theorem State.session_putEntry (s : State) (p : Pedestal) (e : AllotEntry) (q : Pedestal) :
    (s.putEntry p e).session q = s.session q :=
  State.session_congr (congrArg (·.slots) (State.putEntry_account s p e)) q
@[simp] theorem State.countsForPower_putEntry (s : State) (p : Pedestal) (e : AllotEntry) (q : Pedestal) :
    (s.putEntry p e).countsForPower q = s.countsForPower q :=
  State.countsForPower_congr (State.session_putEntry s p e q)
@[simp] theorem State.sessionNumber_putEntry (s : State) (p : Pedestal) (e : AllotEntry) (q : Pedestal) :
    (s.putEntry p e).sessionNumber q = s.sessionNumber q :=
  State.sessionNumber_congr (State.session_putEntry s p e q)
@[simp] theorem State.occupied_putEntry (s : State) (p : Pedestal) (e : AllotEntry) :
    (s.putEntry p e).occupied = s.occupied :=
  State.occupied_congr fun q => by rw [State.session_putEntry]
@[simp] theorem State.loopEntry_putEntry (s : State) (p : Pedestal) (e : AllotEntry) (q : Pedestal) :
    (s.putEntry p e).loopEntry q = s.loopEntry q :=
  State.loopEntry_congr (congrArg (·.entries) (State.putEntry_loop s p e)) q

/-! `State.putFeeder` -/

@[simp] theorem State.slot_putFeeder (s : State) (f : Feeder) (e : FeederEntry) (q : Pedestal) :
    (s.putFeeder f e).slot q = s.slot q :=
  State.slot_congr (congrArg (·.slots) (State.putFeeder_account s f e)) q
@[simp] theorem State.session_putFeeder (s : State) (f : Feeder) (e : FeederEntry) (q : Pedestal) :
    (s.putFeeder f e).session q = s.session q :=
  State.session_congr (congrArg (·.slots) (State.putFeeder_account s f e)) q
@[simp] theorem State.countsForPower_putFeeder (s : State) (f : Feeder) (e : FeederEntry) (q : Pedestal) :
    (s.putFeeder f e).countsForPower q = s.countsForPower q :=
  State.countsForPower_congr (State.session_putFeeder s f e q)
@[simp] theorem State.sessionNumber_putFeeder (s : State) (f : Feeder) (e : FeederEntry) (q : Pedestal) :
    (s.putFeeder f e).sessionNumber q = s.sessionNumber q :=
  State.sessionNumber_congr (State.session_putFeeder s f e q)
@[simp] theorem State.occupied_putFeeder (s : State) (f : Feeder) (e : FeederEntry) :
    (s.putFeeder f e).occupied = s.occupied :=
  State.occupied_congr fun q => by rw [State.session_putFeeder]
@[simp] theorem State.loopEntry_putFeeder (s : State) (f : Feeder) (e : FeederEntry) (q : Pedestal) :
    (s.putFeeder f e).loopEntry q = s.loopEntry q :=
  State.loopEntry_congr (congrArg (·.entries) (State.putFeeder_loop s f e)) q

/-! `State.putLoopEntry` -/

@[simp] theorem State.slot_putLoopEntry (s : State) (p : Pedestal) (e : LoopEntry) (q : Pedestal) :
    (s.putLoopEntry p e).slot q = s.slot q :=
  State.slot_congr (congrArg (·.slots) (State.putLoopEntry_account s p e)) q
@[simp] theorem State.session_putLoopEntry (s : State) (p : Pedestal) (e : LoopEntry) (q : Pedestal) :
    (s.putLoopEntry p e).session q = s.session q :=
  State.session_congr (congrArg (·.slots) (State.putLoopEntry_account s p e)) q
@[simp] theorem State.countsForPower_putLoopEntry (s : State) (p : Pedestal) (e : LoopEntry) (q : Pedestal) :
    (s.putLoopEntry p e).countsForPower q = s.countsForPower q :=
  State.countsForPower_congr (State.session_putLoopEntry s p e q)
@[simp] theorem State.sessionNumber_putLoopEntry (s : State) (p : Pedestal) (e : LoopEntry) (q : Pedestal) :
    (s.putLoopEntry p e).sessionNumber q = s.sessionNumber q :=
  State.sessionNumber_congr (State.session_putLoopEntry s p e q)
@[simp] theorem State.occupied_putLoopEntry (s : State) (p : Pedestal) (e : LoopEntry) :
    (s.putLoopEntry p e).occupied = s.occupied :=
  State.occupied_congr fun q => by rw [State.session_putLoopEntry]
@[simp] theorem State.entry_putLoopEntry (s : State) (p : Pedestal) (e : LoopEntry) (q : Pedestal) :
    (s.putLoopEntry p e).entry q = s.entry q :=
  State.entry_congr (congrArg (·.entries) (State.putLoopEntry_allot s p e)) q
@[simp] theorem State.feeder_putLoopEntry (s : State) (p : Pedestal) (e : LoopEntry) (g : Feeder) :
    (s.putLoopEntry p e).feeder g = s.feeder g :=
  State.feeder_congr (congrArg (·.feeders) (State.putLoopEntry_allot s p e)) g

/-! `State.raisePay` -/

@[simp] theorem State.slot_raisePay (s : State) (c : PayCause) (q : Pedestal) :
    (s.raisePay c).slot q = s.slot q :=
  State.slot_congr (congrArg (·.slots) (State.raisePay_account s c)) q
@[simp] theorem State.session_raisePay (s : State) (c : PayCause) (q : Pedestal) :
    (s.raisePay c).session q = s.session q :=
  State.session_congr (congrArg (·.slots) (State.raisePay_account s c)) q
@[simp] theorem State.countsForPower_raisePay (s : State) (c : PayCause) (q : Pedestal) :
    (s.raisePay c).countsForPower q = s.countsForPower q :=
  State.countsForPower_congr (State.session_raisePay s c q)
@[simp] theorem State.sessionNumber_raisePay (s : State) (c : PayCause) (q : Pedestal) :
    (s.raisePay c).sessionNumber q = s.sessionNumber q :=
  State.sessionNumber_congr (State.session_raisePay s c q)
@[simp] theorem State.occupied_raisePay (s : State) (c : PayCause) :
    (s.raisePay c).occupied = s.occupied :=
  State.occupied_congr fun q => by rw [State.session_raisePay]
@[simp] theorem State.entry_raisePay (s : State) (c : PayCause) (q : Pedestal) :
    (s.raisePay c).entry q = s.entry q :=
  State.entry_congr (congrArg (·.entries) (State.raisePay_allot s c)) q
@[simp] theorem State.feeder_raisePay (s : State) (c : PayCause) (g : Feeder) :
    (s.raisePay c).feeder g = s.feeder g :=
  State.feeder_congr (congrArg (·.feeders) (State.raisePay_allot s c)) g
@[simp] theorem State.loopEntry_raisePay (s : State) (c : PayCause) (q : Pedestal) :
    (s.raisePay c).loopEntry q = s.loopEntry q :=
  State.loopEntry_congr (congrArg (·.entries) (State.raisePay_loop s c)) q

/-! `State.raiseSite` -/

@[simp] theorem State.slot_raiseSite (s : State) (c : SiteCause) (q : Pedestal) :
    (s.raiseSite c).slot q = s.slot q :=
  State.slot_congr (congrArg (·.slots) (State.raiseSite_account s c)) q
@[simp] theorem State.session_raiseSite (s : State) (c : SiteCause) (q : Pedestal) :
    (s.raiseSite c).session q = s.session q :=
  State.session_congr (congrArg (·.slots) (State.raiseSite_account s c)) q
@[simp] theorem State.countsForPower_raiseSite (s : State) (c : SiteCause) (q : Pedestal) :
    (s.raiseSite c).countsForPower q = s.countsForPower q :=
  State.countsForPower_congr (State.session_raiseSite s c q)
@[simp] theorem State.sessionNumber_raiseSite (s : State) (c : SiteCause) (q : Pedestal) :
    (s.raiseSite c).sessionNumber q = s.sessionNumber q :=
  State.sessionNumber_congr (State.session_raiseSite s c q)
@[simp] theorem State.occupied_raiseSite (s : State) (c : SiteCause) :
    (s.raiseSite c).occupied = s.occupied :=
  State.occupied_congr fun q => by rw [State.session_raiseSite]
@[simp] theorem State.entry_raiseSite (s : State) (c : SiteCause) (q : Pedestal) :
    (s.raiseSite c).entry q = s.entry q :=
  State.entry_congr (congrArg (·.entries) (State.raiseSite_allot s c)) q
@[simp] theorem State.feeder_raiseSite (s : State) (c : SiteCause) (g : Feeder) :
    (s.raiseSite c).feeder g = s.feeder g :=
  State.feeder_congr (congrArg (·.feeders) (State.raiseSite_allot s c)) g
@[simp] theorem State.loopEntry_raiseSite (s : State) (c : SiteCause) (q : Pedestal) :
    (s.raiseSite c).loopEntry q = s.loopEntry q :=
  State.loopEntry_congr (congrArg (·.entries) (State.raiseSite_loop s c)) q

/-! `State.raiseStoreFault` -/

@[simp] theorem State.slot_raiseStoreFault (s : State) (q : Pedestal) :
    s.raiseStoreFault.slot q = s.slot q :=
  State.slot_congr (congrArg (·.slots) (State.raiseStoreFault_account s)) q
@[simp] theorem State.session_raiseStoreFault (s : State) (q : Pedestal) :
    s.raiseStoreFault.session q = s.session q :=
  State.session_congr (congrArg (·.slots) (State.raiseStoreFault_account s)) q
@[simp] theorem State.countsForPower_raiseStoreFault (s : State) (q : Pedestal) :
    s.raiseStoreFault.countsForPower q = s.countsForPower q :=
  State.countsForPower_congr (State.session_raiseStoreFault s q)
@[simp] theorem State.sessionNumber_raiseStoreFault (s : State) (q : Pedestal) :
    s.raiseStoreFault.sessionNumber q = s.sessionNumber q :=
  State.sessionNumber_congr (State.session_raiseStoreFault s q)
@[simp] theorem State.occupied_raiseStoreFault (s : State) :
    s.raiseStoreFault.occupied = s.occupied :=
  State.occupied_congr fun q => by rw [State.session_raiseStoreFault]
@[simp] theorem State.entry_raiseStoreFault (s : State) (q : Pedestal) :
    s.raiseStoreFault.entry q = s.entry q :=
  State.entry_congr (congrArg (·.entries) (State.raiseStoreFault_allot s)) q
@[simp] theorem State.feeder_raiseStoreFault (s : State) (g : Feeder) :
    s.raiseStoreFault.feeder g = s.feeder g :=
  State.feeder_congr (congrArg (·.feeders) (State.raiseStoreFault_allot s)) g
@[simp] theorem State.loopEntry_raiseStoreFault (s : State) (q : Pedestal) :
    s.raiseStoreFault.loopEntry q = s.loopEntry q :=
  State.loopEntry_congr (congrArg (·.entries) (State.raiseStoreFault_loop s)) q

/-! `State.drive` -/

@[simp] theorem State.slot_drive (s : State) (q : Pedestal) :
    s.drive.slot q = s.slot q :=
  State.slot_congr (congrArg (·.slots) (State.drive_account s)) q
@[simp] theorem State.session_drive (s : State) (q : Pedestal) :
    s.drive.session q = s.session q :=
  State.session_congr (congrArg (·.slots) (State.drive_account s)) q
@[simp] theorem State.countsForPower_drive (s : State) (q : Pedestal) :
    s.drive.countsForPower q = s.countsForPower q :=
  State.countsForPower_congr (State.session_drive s q)
@[simp] theorem State.sessionNumber_drive (s : State) (q : Pedestal) :
    s.drive.sessionNumber q = s.sessionNumber q :=
  State.sessionNumber_congr (State.session_drive s q)
@[simp] theorem State.occupied_drive (s : State) :
    s.drive.occupied = s.occupied :=
  State.occupied_congr fun q => by rw [State.session_drive]
@[simp] theorem State.entry_drive (s : State) (q : Pedestal) :
    s.drive.entry q = s.entry q :=
  State.entry_congr (congrArg (·.entries) (State.drive_allot s)) q
@[simp] theorem State.feeder_drive (s : State) (g : Feeder) :
    s.drive.feeder g = s.feeder g :=
  State.feeder_congr (congrArg (·.feeders) (State.drive_allot s)) g
@[simp] theorem State.loopEntry_drive (s : State) (q : Pedestal) :
    s.drive.loopEntry q = s.loopEntry q :=
  State.loopEntry_congr (congrArg (·.entries) (State.drive_loop s)) q

/-! `State.recompute` -/

@[simp] theorem State.slot_recompute (s : State) (q : Pedestal) :
    s.recompute.slot q = s.slot q :=
  State.slot_congr (congrArg (·.slots) (State.recompute_account s)) q
@[simp] theorem State.session_recompute (s : State) (q : Pedestal) :
    s.recompute.session q = s.session q :=
  State.session_congr (congrArg (·.slots) (State.recompute_account s)) q
@[simp] theorem State.countsForPower_recompute (s : State) (q : Pedestal) :
    s.recompute.countsForPower q = s.countsForPower q :=
  State.countsForPower_congr (State.session_recompute s q)
@[simp] theorem State.sessionNumber_recompute (s : State) (q : Pedestal) :
    s.recompute.sessionNumber q = s.sessionNumber q :=
  State.sessionNumber_congr (State.session_recompute s q)
@[simp] theorem State.occupied_recompute (s : State) :
    s.recompute.occupied = s.occupied :=
  State.occupied_congr fun q => by rw [State.session_recompute]
@[simp] theorem State.loopEntry_recompute (s : State) (q : Pedestal) :
    s.recompute.loopEntry q = s.loopEntry q :=
  State.loopEntry_congr (congrArg (·.entries) (State.recompute_loop s)) q

/-! `State.endTracking` -/

@[simp] theorem State.slot_endTracking (s : State) (p : Pedestal) (q : Pedestal) :
    (s.endTracking p).slot q = s.slot q :=
  State.slot_congr (congrArg (·.slots) (State.endTracking_account s p)) q
@[simp] theorem State.session_endTracking (s : State) (p : Pedestal) (q : Pedestal) :
    (s.endTracking p).session q = s.session q :=
  State.session_congr (congrArg (·.slots) (State.endTracking_account s p)) q
@[simp] theorem State.countsForPower_endTracking (s : State) (p : Pedestal) (q : Pedestal) :
    (s.endTracking p).countsForPower q = s.countsForPower q :=
  State.countsForPower_congr (State.session_endTracking s p q)
@[simp] theorem State.sessionNumber_endTracking (s : State) (p : Pedestal) (q : Pedestal) :
    (s.endTracking p).sessionNumber q = s.sessionNumber q :=
  State.sessionNumber_congr (State.session_endTracking s p q)
@[simp] theorem State.occupied_endTracking (s : State) (p : Pedestal) :
    (s.endTracking p).occupied = s.occupied :=
  State.occupied_congr fun q => by rw [State.session_endTracking]
@[simp] theorem State.loopEntry_endTracking (s : State) (p : Pedestal) (q : Pedestal) :
    (s.endTracking p).loopEntry q = s.loopEntry q :=
  State.loopEntry_congr (congrArg (·.entries) (State.endTracking_loop s p)) q

/-! `State.putSlotState` -/

@[simp] theorem State.slot_putSlotState (s : State) (i : RecordSlot) (x : SlotState) (q : Pedestal) :
    (s.putSlotState i x).slot q = s.slot q :=
  State.slot_congr (congrArg (·.slots) (State.putSlotState_account s i x)) q
@[simp] theorem State.session_putSlotState (s : State) (i : RecordSlot) (x : SlotState) (q : Pedestal) :
    (s.putSlotState i x).session q = s.session q :=
  State.session_congr (congrArg (·.slots) (State.putSlotState_account s i x)) q
@[simp] theorem State.countsForPower_putSlotState (s : State) (i : RecordSlot) (x : SlotState) (q : Pedestal) :
    (s.putSlotState i x).countsForPower q = s.countsForPower q :=
  State.countsForPower_congr (State.session_putSlotState s i x q)
@[simp] theorem State.sessionNumber_putSlotState (s : State) (i : RecordSlot) (x : SlotState) (q : Pedestal) :
    (s.putSlotState i x).sessionNumber q = s.sessionNumber q :=
  State.sessionNumber_congr (State.session_putSlotState s i x q)
@[simp] theorem State.occupied_putSlotState (s : State) (i : RecordSlot) (x : SlotState) :
    (s.putSlotState i x).occupied = s.occupied :=
  State.occupied_congr fun q => by rw [State.session_putSlotState]
@[simp] theorem State.entry_putSlotState (s : State) (i : RecordSlot) (x : SlotState) (q : Pedestal) :
    (s.putSlotState i x).entry q = s.entry q :=
  State.entry_congr (congrArg (·.entries) (State.putSlotState_allot s i x)) q
@[simp] theorem State.feeder_putSlotState (s : State) (i : RecordSlot) (x : SlotState) (g : Feeder) :
    (s.putSlotState i x).feeder g = s.feeder g :=
  State.feeder_congr (congrArg (·.feeders) (State.putSlotState_allot s i x)) g
@[simp] theorem State.loopEntry_putSlotState (s : State) (i : RecordSlot) (x : SlotState) (q : Pedestal) :
    (s.putSlotState i x).loopEntry q = s.loopEntry q :=
  State.loopEntry_congr (congrArg (·.entries) (State.putSlotState_loop s i x)) q

/-! `State.putSlotCells` -/

@[simp] theorem State.slot_putSlotCells (s : State) (i : RecordSlot) (x : SlotCells) (q : Pedestal) :
    (s.putSlotCells i x).slot q = s.slot q :=
  State.slot_congr (congrArg (·.slots) (State.putSlotCells_account s i x)) q
@[simp] theorem State.session_putSlotCells (s : State) (i : RecordSlot) (x : SlotCells) (q : Pedestal) :
    (s.putSlotCells i x).session q = s.session q :=
  State.session_congr (congrArg (·.slots) (State.putSlotCells_account s i x)) q
@[simp] theorem State.countsForPower_putSlotCells (s : State) (i : RecordSlot) (x : SlotCells) (q : Pedestal) :
    (s.putSlotCells i x).countsForPower q = s.countsForPower q :=
  State.countsForPower_congr (State.session_putSlotCells s i x q)
@[simp] theorem State.sessionNumber_putSlotCells (s : State) (i : RecordSlot) (x : SlotCells) (q : Pedestal) :
    (s.putSlotCells i x).sessionNumber q = s.sessionNumber q :=
  State.sessionNumber_congr (State.session_putSlotCells s i x q)
@[simp] theorem State.occupied_putSlotCells (s : State) (i : RecordSlot) (x : SlotCells) :
    (s.putSlotCells i x).occupied = s.occupied :=
  State.occupied_congr fun q => by rw [State.session_putSlotCells]
@[simp] theorem State.entry_putSlotCells (s : State) (i : RecordSlot) (x : SlotCells) (q : Pedestal) :
    (s.putSlotCells i x).entry q = s.entry q :=
  State.entry_congr (congrArg (·.entries) (State.putSlotCells_allot s i x)) q
@[simp] theorem State.feeder_putSlotCells (s : State) (i : RecordSlot) (x : SlotCells) (g : Feeder) :
    (s.putSlotCells i x).feeder g = s.feeder g :=
  State.feeder_congr (congrArg (·.feeders) (State.putSlotCells_allot s i x)) g
@[simp] theorem State.loopEntry_putSlotCells (s : State) (i : RecordSlot) (x : SlotCells) (q : Pedestal) :
    (s.putSlotCells i x).loopEntry q = s.loopEntry q :=
  State.loopEntry_congr (congrArg (·.entries) (State.putSlotCells_loop s i x)) q

/-! `State.updateQueued` -/

@[simp] theorem State.slot_updateQueued (s : State) (n : Nat) (f : QueueEntry → QueueEntry) (q : Pedestal) :
    (s.updateQueued n f).slot q = s.slot q :=
  State.slot_congr (congrArg (·.slots) (State.updateQueued_account s n f)) q
@[simp] theorem State.session_updateQueued (s : State) (n : Nat) (f : QueueEntry → QueueEntry) (q : Pedestal) :
    (s.updateQueued n f).session q = s.session q :=
  State.session_congr (congrArg (·.slots) (State.updateQueued_account s n f)) q
@[simp] theorem State.countsForPower_updateQueued (s : State) (n : Nat) (f : QueueEntry → QueueEntry) (q : Pedestal) :
    (s.updateQueued n f).countsForPower q = s.countsForPower q :=
  State.countsForPower_congr (State.session_updateQueued s n f q)
@[simp] theorem State.sessionNumber_updateQueued (s : State) (n : Nat) (f : QueueEntry → QueueEntry) (q : Pedestal) :
    (s.updateQueued n f).sessionNumber q = s.sessionNumber q :=
  State.sessionNumber_congr (State.session_updateQueued s n f q)
@[simp] theorem State.occupied_updateQueued (s : State) (n : Nat) (f : QueueEntry → QueueEntry) :
    (s.updateQueued n f).occupied = s.occupied :=
  State.occupied_congr fun q => by rw [State.session_updateQueued]
@[simp] theorem State.entry_updateQueued (s : State) (n : Nat) (f : QueueEntry → QueueEntry) (q : Pedestal) :
    (s.updateQueued n f).entry q = s.entry q :=
  State.entry_congr (congrArg (·.entries) (State.updateQueued_allot s n f)) q
@[simp] theorem State.feeder_updateQueued (s : State) (n : Nat) (f : QueueEntry → QueueEntry) (g : Feeder) :
    (s.updateQueued n f).feeder g = s.feeder g :=
  State.feeder_congr (congrArg (·.feeders) (State.updateQueued_allot s n f)) g
@[simp] theorem State.loopEntry_updateQueued (s : State) (n : Nat) (f : QueueEntry → QueueEntry) (q : Pedestal) :
    (s.updateQueued n f).loopEntry q = s.loopEntry q :=
  State.loopEntry_congr (congrArg (·.entries) (State.updateQueued_loop s n f)) q

/-! `State.dequeue` -/

@[simp] theorem State.slot_dequeue (s : State) (n : Nat) (q : Pedestal) :
    (s.dequeue n).slot q = s.slot q :=
  State.slot_congr (congrArg (·.slots) (State.dequeue_account s n)) q
@[simp] theorem State.session_dequeue (s : State) (n : Nat) (q : Pedestal) :
    (s.dequeue n).session q = s.session q :=
  State.session_congr (congrArg (·.slots) (State.dequeue_account s n)) q
@[simp] theorem State.countsForPower_dequeue (s : State) (n : Nat) (q : Pedestal) :
    (s.dequeue n).countsForPower q = s.countsForPower q :=
  State.countsForPower_congr (State.session_dequeue s n q)
@[simp] theorem State.sessionNumber_dequeue (s : State) (n : Nat) (q : Pedestal) :
    (s.dequeue n).sessionNumber q = s.sessionNumber q :=
  State.sessionNumber_congr (State.session_dequeue s n q)
@[simp] theorem State.occupied_dequeue (s : State) (n : Nat) :
    (s.dequeue n).occupied = s.occupied :=
  State.occupied_congr fun q => by rw [State.session_dequeue]
@[simp] theorem State.entry_dequeue (s : State) (n : Nat) (q : Pedestal) :
    (s.dequeue n).entry q = s.entry q :=
  State.entry_congr (congrArg (·.entries) (State.dequeue_allot s n)) q
@[simp] theorem State.feeder_dequeue (s : State) (n : Nat) (g : Feeder) :
    (s.dequeue n).feeder g = s.feeder g :=
  State.feeder_congr (congrArg (·.feeders) (State.dequeue_allot s n)) g
@[simp] theorem State.loopEntry_dequeue (s : State) (n : Nat) (q : Pedestal) :
    (s.dequeue n).loopEntry q = s.loopEntry q :=
  State.loopEntry_congr (congrArg (·.entries) (State.dequeue_loop s n)) q

/-! `State.joinFirst` -/

@[simp] theorem State.slot_joinFirst (s : State) (item : WorkItem) (q : Pedestal) :
    (s.joinFirst item).slot q = s.slot q :=
  State.slot_congr (congrArg (·.slots) (State.joinFirst_account s item)) q
@[simp] theorem State.session_joinFirst (s : State) (item : WorkItem) (q : Pedestal) :
    (s.joinFirst item).session q = s.session q :=
  State.session_congr (congrArg (·.slots) (State.joinFirst_account s item)) q
@[simp] theorem State.countsForPower_joinFirst (s : State) (item : WorkItem) (q : Pedestal) :
    (s.joinFirst item).countsForPower q = s.countsForPower q :=
  State.countsForPower_congr (State.session_joinFirst s item q)
@[simp] theorem State.sessionNumber_joinFirst (s : State) (item : WorkItem) (q : Pedestal) :
    (s.joinFirst item).sessionNumber q = s.sessionNumber q :=
  State.sessionNumber_congr (State.session_joinFirst s item q)
@[simp] theorem State.occupied_joinFirst (s : State) (item : WorkItem) :
    (s.joinFirst item).occupied = s.occupied :=
  State.occupied_congr fun q => by rw [State.session_joinFirst]
@[simp] theorem State.entry_joinFirst (s : State) (item : WorkItem) (q : Pedestal) :
    (s.joinFirst item).entry q = s.entry q :=
  State.entry_congr (congrArg (·.entries) (State.joinFirst_allot s item)) q
@[simp] theorem State.feeder_joinFirst (s : State) (item : WorkItem) (g : Feeder) :
    (s.joinFirst item).feeder g = s.feeder g :=
  State.feeder_congr (congrArg (·.feeders) (State.joinFirst_allot s item)) g
@[simp] theorem State.loopEntry_joinFirst (s : State) (item : WorkItem) (q : Pedestal) :
    (s.joinFirst item).loopEntry q = s.loopEntry q :=
  State.loopEntry_congr (congrArg (·.entries) (State.joinFirst_loop s item)) q

/-! `State.joinSecond` -/

@[simp] theorem State.slot_joinSecond (s : State) (item : WorkItem) (q : Pedestal) :
    (s.joinSecond item).slot q = s.slot q :=
  State.slot_congr (congrArg (·.slots) (State.joinSecond_account s item)) q
@[simp] theorem State.session_joinSecond (s : State) (item : WorkItem) (q : Pedestal) :
    (s.joinSecond item).session q = s.session q :=
  State.session_congr (congrArg (·.slots) (State.joinSecond_account s item)) q
@[simp] theorem State.countsForPower_joinSecond (s : State) (item : WorkItem) (q : Pedestal) :
    (s.joinSecond item).countsForPower q = s.countsForPower q :=
  State.countsForPower_congr (State.session_joinSecond s item q)
@[simp] theorem State.sessionNumber_joinSecond (s : State) (item : WorkItem) (q : Pedestal) :
    (s.joinSecond item).sessionNumber q = s.sessionNumber q :=
  State.sessionNumber_congr (State.session_joinSecond s item q)
@[simp] theorem State.occupied_joinSecond (s : State) (item : WorkItem) :
    (s.joinSecond item).occupied = s.occupied :=
  State.occupied_congr fun q => by rw [State.session_joinSecond]
@[simp] theorem State.entry_joinSecond (s : State) (item : WorkItem) (q : Pedestal) :
    (s.joinSecond item).entry q = s.entry q :=
  State.entry_congr (congrArg (·.entries) (State.joinSecond_allot s item)) q
@[simp] theorem State.feeder_joinSecond (s : State) (item : WorkItem) (g : Feeder) :
    (s.joinSecond item).feeder g = s.feeder g :=
  State.feeder_congr (congrArg (·.feeders) (State.joinSecond_allot s item)) g
@[simp] theorem State.loopEntry_joinSecond (s : State) (item : WorkItem) (q : Pedestal) :
    (s.joinSecond item).loopEntry q = s.loopEntry q :=
  State.loopEntry_congr (congrArg (·.entries) (State.joinSecond_loop s item)) q

/-! `State.putFlight` -/

@[simp] theorem State.slot_putFlight (s : State) (f : Option Flight) (q : Pedestal) :
    (s.putFlight f).slot q = s.slot q :=
  State.slot_congr (congrArg (·.slots) (State.putFlight_account s f)) q
@[simp] theorem State.session_putFlight (s : State) (f : Option Flight) (q : Pedestal) :
    (s.putFlight f).session q = s.session q :=
  State.session_congr (congrArg (·.slots) (State.putFlight_account s f)) q
@[simp] theorem State.countsForPower_putFlight (s : State) (f : Option Flight) (q : Pedestal) :
    (s.putFlight f).countsForPower q = s.countsForPower q :=
  State.countsForPower_congr (State.session_putFlight s f q)
@[simp] theorem State.sessionNumber_putFlight (s : State) (f : Option Flight) (q : Pedestal) :
    (s.putFlight f).sessionNumber q = s.sessionNumber q :=
  State.sessionNumber_congr (State.session_putFlight s f q)
@[simp] theorem State.occupied_putFlight (s : State) (f : Option Flight) :
    (s.putFlight f).occupied = s.occupied :=
  State.occupied_congr fun q => by rw [State.session_putFlight]
@[simp] theorem State.entry_putFlight (s : State) (f : Option Flight) (q : Pedestal) :
    (s.putFlight f).entry q = s.entry q :=
  State.entry_congr (congrArg (·.entries) (State.putFlight_allot s f)) q
@[simp] theorem State.feeder_putFlight (s : State) (f : Option Flight) (g : Feeder) :
    (s.putFlight f).feeder g = s.feeder g :=
  State.feeder_congr (congrArg (·.feeders) (State.putFlight_allot s f)) g
@[simp] theorem State.loopEntry_putFlight (s : State) (f : Option Flight) (q : Pedestal) :
    (s.putFlight f).loopEntry q = s.loopEntry q :=
  State.loopEntry_congr (congrArg (·.entries) (State.putFlight_loop s f)) q

/-! `State.endNotDurable` -/

@[simp] theorem State.slot_endNotDurable (s : State) (n : Nat) (q : Pedestal) :
    (s.endNotDurable n).slot q = s.slot q :=
  State.slot_congr (congrArg (·.slots) (State.endNotDurable_account s n)) q
@[simp] theorem State.session_endNotDurable (s : State) (n : Nat) (q : Pedestal) :
    (s.endNotDurable n).session q = s.session q :=
  State.session_congr (congrArg (·.slots) (State.endNotDurable_account s n)) q
@[simp] theorem State.countsForPower_endNotDurable (s : State) (n : Nat) (q : Pedestal) :
    (s.endNotDurable n).countsForPower q = s.countsForPower q :=
  State.countsForPower_congr (State.session_endNotDurable s n q)
@[simp] theorem State.sessionNumber_endNotDurable (s : State) (n : Nat) (q : Pedestal) :
    (s.endNotDurable n).sessionNumber q = s.sessionNumber q :=
  State.sessionNumber_congr (State.session_endNotDurable s n q)
@[simp] theorem State.occupied_endNotDurable (s : State) (n : Nat) :
    (s.endNotDurable n).occupied = s.occupied :=
  State.occupied_congr fun q => by rw [State.session_endNotDurable]
@[simp] theorem State.entry_endNotDurable (s : State) (n : Nat) (q : Pedestal) :
    (s.endNotDurable n).entry q = s.entry q :=
  State.entry_congr (congrArg (·.entries) (State.endNotDurable_allot s n)) q
@[simp] theorem State.feeder_endNotDurable (s : State) (n : Nat) (g : Feeder) :
    (s.endNotDurable n).feeder g = s.feeder g :=
  State.feeder_congr (congrArg (·.feeders) (State.endNotDurable_allot s n)) g
@[simp] theorem State.loopEntry_endNotDurable (s : State) (n : Nat) (q : Pedestal) :
    (s.endNotDurable n).loopEntry q = s.loopEntry q :=
  State.loopEntry_congr (congrArg (·.entries) (State.endNotDurable_loop s n)) q

/-! `State.enterPark` -/

@[simp] theorem State.slot_enterPark (s : State) (x : ParkState) (q : Pedestal) :
    (s.enterPark x).slot q = s.slot q :=
  State.slot_congr (congrArg (·.slots) (State.enterPark_account s x)) q
@[simp] theorem State.session_enterPark (s : State) (x : ParkState) (q : Pedestal) :
    (s.enterPark x).session q = s.session q :=
  State.session_congr (congrArg (·.slots) (State.enterPark_account s x)) q
@[simp] theorem State.countsForPower_enterPark (s : State) (x : ParkState) (q : Pedestal) :
    (s.enterPark x).countsForPower q = s.countsForPower q :=
  State.countsForPower_congr (State.session_enterPark s x q)
@[simp] theorem State.sessionNumber_enterPark (s : State) (x : ParkState) (q : Pedestal) :
    (s.enterPark x).sessionNumber q = s.sessionNumber q :=
  State.sessionNumber_congr (State.session_enterPark s x q)
@[simp] theorem State.occupied_enterPark (s : State) (x : ParkState) :
    (s.enterPark x).occupied = s.occupied :=
  State.occupied_congr fun q => by rw [State.session_enterPark]
@[simp] theorem State.entry_enterPark (s : State) (x : ParkState) (q : Pedestal) :
    (s.enterPark x).entry q = s.entry q :=
  State.entry_congr (congrArg (·.entries) (State.enterPark_allot s x)) q
@[simp] theorem State.feeder_enterPark (s : State) (x : ParkState) (g : Feeder) :
    (s.enterPark x).feeder g = s.feeder g :=
  State.feeder_congr (congrArg (·.feeders) (State.enterPark_allot s x)) g
@[simp] theorem State.loopEntry_enterPark (s : State) (x : ParkState) (q : Pedestal) :
    (s.enterPark x).loopEntry q = s.loopEntry q :=
  State.loopEntry_congr (congrArg (·.entries) (State.enterPark_loop s x)) q

/-! `State.payReply` -/

@[simp] theorem State.slot_payReply (s : State) (kind : Byte) (unread : Bool) (r : Reply) (q : Pedestal) :
    (s.payReply kind unread r).slot q = s.slot q :=
  State.slot_congr (congrArg (·.slots) (State.payReply_account s kind unread r)) q
@[simp] theorem State.session_payReply (s : State) (kind : Byte) (unread : Bool) (r : Reply) (q : Pedestal) :
    (s.payReply kind unread r).session q = s.session q :=
  State.session_congr (congrArg (·.slots) (State.payReply_account s kind unread r)) q
@[simp] theorem State.countsForPower_payReply (s : State) (kind : Byte) (unread : Bool) (r : Reply) (q : Pedestal) :
    (s.payReply kind unread r).countsForPower q = s.countsForPower q :=
  State.countsForPower_congr (State.session_payReply s kind unread r q)
@[simp] theorem State.sessionNumber_payReply (s : State) (kind : Byte) (unread : Bool) (r : Reply) (q : Pedestal) :
    (s.payReply kind unread r).sessionNumber q = s.sessionNumber q :=
  State.sessionNumber_congr (State.session_payReply s kind unread r q)
@[simp] theorem State.occupied_payReply (s : State) (kind : Byte) (unread : Bool) (r : Reply) :
    (s.payReply kind unread r).occupied = s.occupied :=
  State.occupied_congr fun q => by rw [State.session_payReply]
@[simp] theorem State.entry_payReply (s : State) (kind : Byte) (unread : Bool) (r : Reply) (q : Pedestal) :
    (s.payReply kind unread r).entry q = s.entry q :=
  State.entry_congr (congrArg (·.entries) (State.payReply_allot s kind unread r)) q
@[simp] theorem State.feeder_payReply (s : State) (kind : Byte) (unread : Bool) (r : Reply) (g : Feeder) :
    (s.payReply kind unread r).feeder g = s.feeder g :=
  State.feeder_congr (congrArg (·.feeders) (State.payReply_allot s kind unread r)) g
@[simp] theorem State.loopEntry_payReply (s : State) (kind : Byte) (unread : Bool) (r : Reply) (q : Pedestal) :
    (s.payReply kind unread r).loopEntry q = s.loopEntry q :=
  State.loopEntry_congr (congrArg (·.entries) (State.payReply_loop s kind unread r)) q

/-! `State.siteReply` -/

@[simp] theorem State.slot_siteReply (s : State) (kind : Byte) (unread : Bool) (r : Reply) (q : Pedestal) :
    (s.siteReply kind unread r).slot q = s.slot q :=
  State.slot_congr (congrArg (·.slots) (State.siteReply_account s kind unread r)) q
@[simp] theorem State.session_siteReply (s : State) (kind : Byte) (unread : Bool) (r : Reply) (q : Pedestal) :
    (s.siteReply kind unread r).session q = s.session q :=
  State.session_congr (congrArg (·.slots) (State.siteReply_account s kind unread r)) q
@[simp] theorem State.countsForPower_siteReply (s : State) (kind : Byte) (unread : Bool) (r : Reply) (q : Pedestal) :
    (s.siteReply kind unread r).countsForPower q = s.countsForPower q :=
  State.countsForPower_congr (State.session_siteReply s kind unread r q)
@[simp] theorem State.sessionNumber_siteReply (s : State) (kind : Byte) (unread : Bool) (r : Reply) (q : Pedestal) :
    (s.siteReply kind unread r).sessionNumber q = s.sessionNumber q :=
  State.sessionNumber_congr (State.session_siteReply s kind unread r q)
@[simp] theorem State.occupied_siteReply (s : State) (kind : Byte) (unread : Bool) (r : Reply) :
    (s.siteReply kind unread r).occupied = s.occupied :=
  State.occupied_congr fun q => by rw [State.session_siteReply]
@[simp] theorem State.entry_siteReply (s : State) (kind : Byte) (unread : Bool) (r : Reply) (q : Pedestal) :
    (s.siteReply kind unread r).entry q = s.entry q :=
  State.entry_congr (congrArg (·.entries) (State.siteReply_allot s kind unread r)) q
@[simp] theorem State.feeder_siteReply (s : State) (kind : Byte) (unread : Bool) (r : Reply) (g : Feeder) :
    (s.siteReply kind unread r).feeder g = s.feeder g :=
  State.feeder_congr (congrArg (·.feeders) (State.siteReply_allot s kind unread r)) g
@[simp] theorem State.loopEntry_siteReply (s : State) (kind : Byte) (unread : Bool) (r : Reply) (q : Pedestal) :
    (s.siteReply kind unread r).loopEntry q = s.loopEntry q :=
  State.loopEntry_congr (congrArg (·.entries) (State.siteReply_loop s kind unread r)) q

/-! `State.trackDraw` -/

@[simp] theorem State.slot_trackDraw (s : State) (p : Pedestal) (draw : Nat) (q : Pedestal) :
    (s.trackDraw p draw).slot q = s.slot q :=
  State.slot_congr (congrArg (·.slots) (State.trackDraw_account s p draw)) q
@[simp] theorem State.session_trackDraw (s : State) (p : Pedestal) (draw : Nat) (q : Pedestal) :
    (s.trackDraw p draw).session q = s.session q :=
  State.session_congr (congrArg (·.slots) (State.trackDraw_account s p draw)) q
@[simp] theorem State.countsForPower_trackDraw (s : State) (p : Pedestal) (draw : Nat) (q : Pedestal) :
    (s.trackDraw p draw).countsForPower q = s.countsForPower q :=
  State.countsForPower_congr (State.session_trackDraw s p draw q)
@[simp] theorem State.sessionNumber_trackDraw (s : State) (p : Pedestal) (draw : Nat) (q : Pedestal) :
    (s.trackDraw p draw).sessionNumber q = s.sessionNumber q :=
  State.sessionNumber_congr (State.session_trackDraw s p draw q)
@[simp] theorem State.occupied_trackDraw (s : State) (p : Pedestal) (draw : Nat) :
    (s.trackDraw p draw).occupied = s.occupied :=
  State.occupied_congr fun q => by rw [State.session_trackDraw]
@[simp] theorem State.loopEntry_trackDraw (s : State) (p : Pedestal) (draw : Nat) (q : Pedestal) :
    (s.trackDraw p draw).loopEntry q = s.loopEntry q :=
  State.loopEntry_congr (congrArg (·.entries) (State.trackDraw_loop s p draw)) q

/-! `State.startItem` -/

@[simp] theorem State.slot_startItem (s : State) (item : WorkItem) (q : Pedestal) :
    (s.startItem item).slot q = s.slot q :=
  State.slot_congr (congrArg (·.slots) (State.startItem_account s item)) q
@[simp] theorem State.session_startItem (s : State) (item : WorkItem) (q : Pedestal) :
    (s.startItem item).session q = s.session q :=
  State.session_congr (congrArg (·.slots) (State.startItem_account s item)) q
@[simp] theorem State.countsForPower_startItem (s : State) (item : WorkItem) (q : Pedestal) :
    (s.startItem item).countsForPower q = s.countsForPower q :=
  State.countsForPower_congr (State.session_startItem s item q)
@[simp] theorem State.sessionNumber_startItem (s : State) (item : WorkItem) (q : Pedestal) :
    (s.startItem item).sessionNumber q = s.sessionNumber q :=
  State.sessionNumber_congr (State.session_startItem s item q)
@[simp] theorem State.occupied_startItem (s : State) (item : WorkItem) :
    (s.startItem item).occupied = s.occupied :=
  State.occupied_congr fun q => by rw [State.session_startItem]
@[simp] theorem State.entry_startItem (s : State) (item : WorkItem) (q : Pedestal) :
    (s.startItem item).entry q = s.entry q :=
  State.entry_congr (congrArg (·.entries) (State.startItem_allot s item)) q
@[simp] theorem State.feeder_startItem (s : State) (item : WorkItem) (g : Feeder) :
    (s.startItem item).feeder g = s.feeder g :=
  State.feeder_congr (congrArg (·.feeders) (State.startItem_allot s item)) g
@[simp] theorem State.loopEntry_startItem (s : State) (item : WorkItem) (q : Pedestal) :
    (s.startItem item).loopEntry q = s.loopEntry q :=
  State.loopEntry_congr (congrArg (·.entries) (State.startItem_loop s item)) q

/-! `State.startWork` -/

@[simp] theorem State.slot_startWork (s : State) (q : Pedestal) :
    s.startWork.slot q = s.slot q :=
  State.slot_congr (congrArg (·.slots) (State.startWork_account s)) q
@[simp] theorem State.session_startWork (s : State) (q : Pedestal) :
    s.startWork.session q = s.session q :=
  State.session_congr (congrArg (·.slots) (State.startWork_account s)) q
@[simp] theorem State.countsForPower_startWork (s : State) (q : Pedestal) :
    s.startWork.countsForPower q = s.countsForPower q :=
  State.countsForPower_congr (State.session_startWork s q)
@[simp] theorem State.sessionNumber_startWork (s : State) (q : Pedestal) :
    s.startWork.sessionNumber q = s.sessionNumber q :=
  State.sessionNumber_congr (State.session_startWork s q)
@[simp] theorem State.occupied_startWork (s : State) :
    s.startWork.occupied = s.occupied :=
  State.occupied_congr fun q => by rw [State.session_startWork]
@[simp] theorem State.entry_startWork (s : State) (q : Pedestal) :
    s.startWork.entry q = s.entry q :=
  State.entry_congr (congrArg (·.entries) (State.startWork_allot s)) q
@[simp] theorem State.feeder_startWork (s : State) (g : Feeder) :
    s.startWork.feeder g = s.feeder g :=
  State.feeder_congr (congrArg (·.feeders) (State.startWork_allot s)) g
@[simp] theorem State.loopEntry_startWork (s : State) (q : Pedestal) :
    s.startWork.loopEntry q = s.loopEntry q :=
  State.loopEntry_congr (congrArg (·.entries) (State.startWork_loop s)) q

/-! `State.finish` -/

@[simp] theorem State.slot_finish (s : State) (q : Pedestal) :
    s.finish.slot q = s.slot q :=
  State.slot_congr (congrArg (·.slots) (State.finish_account s)) q
@[simp] theorem State.session_finish (s : State) (q : Pedestal) :
    s.finish.session q = s.session q :=
  State.session_congr (congrArg (·.slots) (State.finish_account s)) q
@[simp] theorem State.countsForPower_finish (s : State) (q : Pedestal) :
    s.finish.countsForPower q = s.countsForPower q :=
  State.countsForPower_congr (State.session_finish s q)
@[simp] theorem State.sessionNumber_finish (s : State) (q : Pedestal) :
    s.finish.sessionNumber q = s.sessionNumber q :=
  State.sessionNumber_congr (State.session_finish s q)
@[simp] theorem State.occupied_finish (s : State) :
    s.finish.occupied = s.occupied :=
  State.occupied_congr fun q => by rw [State.session_finish]
@[simp] theorem State.entry_finish (s : State) (q : Pedestal) :
    s.finish.entry q = s.entry q :=
  State.entry_congr (congrArg (·.entries) (State.finish_allot s)) q
@[simp] theorem State.feeder_finish (s : State) (g : Feeder) :
    s.finish.feeder g = s.feeder g :=
  State.feeder_congr (congrArg (·.feeders) (State.finish_allot s)) g
@[simp] theorem State.loopEntry_finish (s : State) (q : Pedestal) :
    s.finish.loopEntry q = s.loopEntry q :=
  State.loopEntry_congr (congrArg (·.entries) (State.finish_loop s)) q

/-! `State.testReservation` -/

@[simp] theorem State.slot_testReservation (s : State) (q : Pedestal) :
    s.testReservation.slot q = s.slot q :=
  State.slot_congr (congrArg (·.slots) (State.testReservation_account s)) q
@[simp] theorem State.session_testReservation (s : State) (q : Pedestal) :
    s.testReservation.session q = s.session q :=
  State.session_congr (congrArg (·.slots) (State.testReservation_account s)) q
@[simp] theorem State.countsForPower_testReservation (s : State) (q : Pedestal) :
    s.testReservation.countsForPower q = s.countsForPower q :=
  State.countsForPower_congr (State.session_testReservation s q)
@[simp] theorem State.sessionNumber_testReservation (s : State) (q : Pedestal) :
    s.testReservation.sessionNumber q = s.sessionNumber q :=
  State.sessionNumber_congr (State.session_testReservation s q)
@[simp] theorem State.occupied_testReservation (s : State) :
    s.testReservation.occupied = s.occupied :=
  State.occupied_congr fun q => by rw [State.session_testReservation]
@[simp] theorem State.entry_testReservation (s : State) (q : Pedestal) :
    s.testReservation.entry q = s.entry q :=
  State.entry_congr (congrArg (·.entries) (State.testReservation_allot s)) q
@[simp] theorem State.feeder_testReservation (s : State) (g : Feeder) :
    s.testReservation.feeder g = s.feeder g :=
  State.feeder_congr (congrArg (·.feeders) (State.testReservation_allot s)) g
@[simp] theorem State.loopEntry_testReservation (s : State) (q : Pedestal) :
    s.testReservation.loopEntry q = s.loopEntry q :=
  State.loopEntry_congr (congrArg (·.entries) (State.testReservation_loop s)) q

/-! `State.takeSlot` -/

@[simp] theorem State.slot_takeSlot (s : State) (c : SlotClaim) (q : Pedestal) :
    (s.takeSlot c).slot q = s.slot q :=
  State.slot_congr (congrArg (·.slots) (State.takeSlot_account s c)) q
@[simp] theorem State.session_takeSlot (s : State) (c : SlotClaim) (q : Pedestal) :
    (s.takeSlot c).session q = s.session q :=
  State.session_congr (congrArg (·.slots) (State.takeSlot_account s c)) q
@[simp] theorem State.countsForPower_takeSlot (s : State) (c : SlotClaim) (q : Pedestal) :
    (s.takeSlot c).countsForPower q = s.countsForPower q :=
  State.countsForPower_congr (State.session_takeSlot s c q)
@[simp] theorem State.sessionNumber_takeSlot (s : State) (c : SlotClaim) (q : Pedestal) :
    (s.takeSlot c).sessionNumber q = s.sessionNumber q :=
  State.sessionNumber_congr (State.session_takeSlot s c q)
@[simp] theorem State.occupied_takeSlot (s : State) (c : SlotClaim) :
    (s.takeSlot c).occupied = s.occupied :=
  State.occupied_congr fun q => by rw [State.session_takeSlot]
@[simp] theorem State.entry_takeSlot (s : State) (c : SlotClaim) (q : Pedestal) :
    (s.takeSlot c).entry q = s.entry q :=
  State.entry_congr (congrArg (·.entries) (State.takeSlot_allot s c)) q
@[simp] theorem State.feeder_takeSlot (s : State) (c : SlotClaim) (g : Feeder) :
    (s.takeSlot c).feeder g = s.feeder g :=
  State.feeder_congr (congrArg (·.feeders) (State.takeSlot_allot s c)) g
@[simp] theorem State.loopEntry_takeSlot (s : State) (c : SlotClaim) (q : Pedestal) :
    (s.takeSlot c).loopEntry q = s.loopEntry q :=
  State.loopEntry_congr (congrArg (·.entries) (State.takeSlot_loop s c)) q

/-! `State.reportCount` -/

@[simp] theorem State.slot_reportCount (s : State) (q : Pedestal) :
    s.reportCount.slot q = s.slot q :=
  State.slot_congr (congrArg (·.slots) (State.reportCount_account s)) q
@[simp] theorem State.session_reportCount (s : State) (q : Pedestal) :
    s.reportCount.session q = s.session q :=
  State.session_congr (congrArg (·.slots) (State.reportCount_account s)) q
@[simp] theorem State.countsForPower_reportCount (s : State) (q : Pedestal) :
    s.reportCount.countsForPower q = s.countsForPower q :=
  State.countsForPower_congr (State.session_reportCount s q)
@[simp] theorem State.sessionNumber_reportCount (s : State) (q : Pedestal) :
    s.reportCount.sessionNumber q = s.sessionNumber q :=
  State.sessionNumber_congr (State.session_reportCount s q)
@[simp] theorem State.occupied_reportCount (s : State) :
    s.reportCount.occupied = s.occupied :=
  State.occupied_congr fun q => by rw [State.session_reportCount]
@[simp] theorem State.entry_reportCount (s : State) (q : Pedestal) :
    s.reportCount.entry q = s.entry q :=
  State.entry_congr (congrArg (·.entries) (State.reportCount_allot s)) q
@[simp] theorem State.feeder_reportCount (s : State) (g : Feeder) :
    s.reportCount.feeder g = s.feeder g :=
  State.feeder_congr (congrArg (·.feeders) (State.reportCount_allot s)) g
@[simp] theorem State.loopEntry_reportCount (s : State) (q : Pedestal) :
    s.reportCount.loopEntry q = s.loopEntry q :=
  State.loopEntry_congr (congrArg (·.entries) (State.reportCount_loop s)) q

/-! `State.enqueueRecord` -/

@[simp] theorem State.slot_enqueueRecord (s : State) (r : SettlementRecord) (q : Pedestal) :
    (s.enqueueRecord r).slot q = s.slot q :=
  State.slot_congr (congrArg (·.slots) (State.enqueueRecord_account s r)) q
@[simp] theorem State.session_enqueueRecord (s : State) (r : SettlementRecord) (q : Pedestal) :
    (s.enqueueRecord r).session q = s.session q :=
  State.session_congr (congrArg (·.slots) (State.enqueueRecord_account s r)) q
@[simp] theorem State.countsForPower_enqueueRecord (s : State) (r : SettlementRecord) (q : Pedestal) :
    (s.enqueueRecord r).countsForPower q = s.countsForPower q :=
  State.countsForPower_congr (State.session_enqueueRecord s r q)
@[simp] theorem State.sessionNumber_enqueueRecord (s : State) (r : SettlementRecord) (q : Pedestal) :
    (s.enqueueRecord r).sessionNumber q = s.sessionNumber q :=
  State.sessionNumber_congr (State.session_enqueueRecord s r q)
@[simp] theorem State.occupied_enqueueRecord (s : State) (r : SettlementRecord) :
    (s.enqueueRecord r).occupied = s.occupied :=
  State.occupied_congr fun q => by rw [State.session_enqueueRecord]
@[simp] theorem State.entry_enqueueRecord (s : State) (r : SettlementRecord) (q : Pedestal) :
    (s.enqueueRecord r).entry q = s.entry q :=
  State.entry_congr (congrArg (·.entries) (State.enqueueRecord_allot s r)) q
@[simp] theorem State.feeder_enqueueRecord (s : State) (r : SettlementRecord) (g : Feeder) :
    (s.enqueueRecord r).feeder g = s.feeder g :=
  State.feeder_congr (congrArg (·.feeders) (State.enqueueRecord_allot s r)) g
@[simp] theorem State.loopEntry_enqueueRecord (s : State) (r : SettlementRecord) (q : Pedestal) :
    (s.enqueueRecord r).loopEntry q = s.loopEntry q :=
  State.loopEntry_congr (congrArg (·.entries) (State.enqueueRecord_loop s r)) q

/-! `State.void` -/

@[simp] theorem State.entry_void (s : State) (p : Pedestal) (refused : Bool) (q : Pedestal) :
    (s.void p refused).entry q = s.entry q :=
  State.entry_congr (congrArg (·.entries) (State.void_allot s p refused)) q
@[simp] theorem State.feeder_void (s : State) (p : Pedestal) (refused : Bool) (g : Feeder) :
    (s.void p refused).feeder g = s.feeder g :=
  State.feeder_congr (congrArg (·.feeders) (State.void_allot s p refused)) g
@[simp] theorem State.loopEntry_void (s : State) (p : Pedestal) (refused : Bool) (q : Pedestal) :
    (s.void p refused).loopEntry q = s.loopEntry q :=
  State.loopEntry_congr (congrArg (·.entries) (State.void_loop s p refused)) q

/-! `State.close` -/

@[simp] theorem State.loopEntry_close (s : State) (p : Pedestal) (reason : CloseReason) (refused : Bool) (q : Pedestal) :
    (s.close p reason refused).loopEntry q = s.loopEntry q :=
  State.loopEntry_congr (congrArg (·.entries) (State.close_loop s p reason refused)) q

/-! `State.powerFailSlot` -/

@[simp] theorem State.loopEntry_powerFailSlot (s : State) (p : Pedestal) (q : Pedestal) :
    (s.powerFailSlot p).loopEntry q = s.loopEntry q :=
  State.loopEntry_congr (congrArg (·.entries) (State.powerFailSlot_loop s p)) q

/-! `State.enterStopping` -/

@[simp] theorem State.loopEntry_enterStopping (s : State) (p : Pedestal) (reason : StopReason) (q : Pedestal) :
    (s.enterStopping p reason).loopEntry q = s.loopEntry q :=
  State.loopEntry_congr (congrArg (·.entries) (State.enterStopping_loop s p reason)) q

/-! `State.enterParked` -/

@[simp] theorem State.loopEntry_enterParked (s : State) (p : Pedestal) (by_ : ParkedBy) (q : Pedestal) :
    (s.enterParked p by_).loopEntry q = s.loopEntry q :=
  State.loopEntry_congr (congrArg (·.entries) (State.enterParked_loop s p by_)) q

/-! `State.revive` -/

@[simp] theorem State.loopEntry_revive (s : State) (p : Pedestal) (x : Session) (q : Pedestal) :
    (s.revive p x).loopEntry q = s.loopEntry q :=
  State.loopEntry_congr (congrArg (·.entries) (State.revive_loop s p x)) q

/-! `State.openSession` -/

@[simp] theorem State.entry_openSession (s : State) (p : Pedestal) (reading : Nat) (stamp : Word32) (q : Pedestal) :
    (s.openSession p reading stamp).entry q = s.entry q :=
  State.entry_congr (congrArg (·.entries) (State.openSession_allot s p reading stamp)) q
@[simp] theorem State.feeder_openSession (s : State) (p : Pedestal) (reading : Nat) (stamp : Word32) (g : Feeder) :
    (s.openSession p reading stamp).feeder g = s.feeder g :=
  State.feeder_congr (congrArg (·.feeders) (State.openSession_allot s p reading stamp)) g
@[simp] theorem State.loopEntry_openSession (s : State) (p : Pedestal) (reading : Nat) (stamp : Word32) (q : Pedestal) :
    (s.openSession p reading stamp).loopEntry q = s.loopEntry q :=
  State.loopEntry_congr (congrArg (·.entries) (State.openSession_loop s p reading stamp)) q

/-! `State.refuseOpening` -/

@[simp] theorem State.entry_refuseOpening (s : State) (p : Pedestal) (q : Pedestal) :
    (s.refuseOpening p).entry q = s.entry q :=
  State.entry_congr (congrArg (·.entries) (State.refuseOpening_allot s p)) q
@[simp] theorem State.feeder_refuseOpening (s : State) (p : Pedestal) (g : Feeder) :
    (s.refuseOpening p).feeder g = s.feeder g :=
  State.feeder_congr (congrArg (·.feeders) (State.refuseOpening_allot s p)) g
@[simp] theorem State.loopEntry_refuseOpening (s : State) (p : Pedestal) (q : Pedestal) :
    (s.refuseOpening p).loopEntry q = s.loopEntry q :=
  State.loopEntry_congr (congrArg (·.entries) (State.refuseOpening_loop s p)) q

/-! `State.billSession` -/

@[simp] theorem State.loopEntry_billSession (s : State) (p : Pedestal) (x : Session) (reading : Nat) (stamp : Word32) (q : Pedestal) :
    (s.billSession p x reading stamp).loopEntry q = s.loopEntry q :=
  State.loopEntry_congr (congrArg (·.entries) (State.billSession_loop s p x reading stamp)) q

/-! `State.takeReading` -/

@[simp] theorem State.loopEntry_takeReading (s : State) (p : Pedestal) (reading : Nat) (stamp : Word32) (q : Pedestal) :
    (s.takeReading p reading stamp).loopEntry q = s.loopEntry q :=
  State.loopEntry_congr (congrArg (·.entries) (State.takeReading_loop s p reading stamp)) q

/-! `State.reportFree` -/

@[simp] theorem State.entry_reportFree (s : State) (p : Pedestal) (r : Report) (stamp : Word32) (q : Pedestal) :
    (s.reportFree p r stamp).entry q = s.entry q :=
  State.entry_congr (congrArg (·.entries) (State.reportFree_allot s p r stamp)) q
@[simp] theorem State.feeder_reportFree (s : State) (p : Pedestal) (r : Report) (stamp : Word32) (g : Feeder) :
    (s.reportFree p r stamp).feeder g = s.feeder g :=
  State.feeder_congr (congrArg (·.feeders) (State.reportFree_allot s p r stamp)) g
@[simp] theorem State.loopEntry_reportFree (s : State) (p : Pedestal) (r : Report) (stamp : Word32) (q : Pedestal) :
    (s.reportFree p r stamp).loopEntry q = s.loopEntry q :=
  State.loopEntry_congr (congrArg (·.entries) (State.reportFree_loop s p r stamp)) q

/-! `State.reportCharging` -/

@[simp] theorem State.loopEntry_reportCharging (s : State) (p : Pedestal) (r : Report) (q : Pedestal) :
    (s.reportCharging p r).loopEntry q = s.loopEntry q :=
  State.loopEntry_congr (congrArg (·.entries) (State.reportCharging_loop s p r)) q

/-! `State.reportStopping` -/

@[simp] theorem State.loopEntry_reportStopping (s : State) (p : Pedestal) (x : Session) (r : Report) (q : Pedestal) :
    (s.reportStopping p x r).loopEntry q = s.loopEntry q :=
  State.loopEntry_congr (congrArg (·.entries) (State.reportStopping_loop s p x r)) q

/-! `State.reportParked` -/

@[simp] theorem State.loopEntry_reportParked (s : State) (p : Pedestal) (x : Session) (r : Report) (q : Pedestal) :
    (s.reportParked p x r).loopEntry q = s.loopEntry q :=
  State.loopEntry_congr (congrArg (·.entries) (State.reportParked_loop s p x r)) q

/-! `State.applyReport` -/

@[simp] theorem State.loopEntry_applyReport (s : State) (p : Pedestal) (r : Report) (stamp : Word32) (q : Pedestal) :
    (s.applyReport p r stamp).loopEntry q = s.loopEntry q :=
  State.loopEntry_congr (congrArg (·.entries) (State.applyReport_loop s p r stamp)) q

/-! `State.treatReport` -/

@[simp] theorem State.loopEntry_treatReport (s : State) (p : Pedestal) (r : Report) (stamp : Word32) (q : Pedestal) :
    (s.treatReport p r stamp).loopEntry q = s.loopEntry q :=
  State.loopEntry_congr (congrArg (·.entries) (State.treatReport_loop s p r stamp)) q

end Sys2Proof.Machine
end

