-- ==== Sys2Proof/Laws/Events.lean ====
section
/-! SUPPORT. What every event shares: when the single recompute of R29 has no cause, an event's two
forms, a timer's expiry, and what the arrival of a request at a port comes to once the port takes it
and its treatment is known. -/

namespace Sys2Proof.Machine
open Sys2Proof

/-! ### The recompute of R29 -/

theorem pedestalCause_eq_false {s t : State} {p : Pedestal}
    (hr : (t.loopEntry p).request = (s.loopEntry p).request)
    (hc : t.countsForPower p = s.countsForPower p)
    (hl : (t.loopEntry p).link = (s.loopEntry p).link)
    (ht : (t.entry p).tracking = (s.entry p).tracking) : pedestalCause s t p = false := by
  simp [pedestalCause, hr, hc, hl, ht]

theorem recomputeAfter_of_noCause {s t : State} (hp : ∀ p, pedestalCause s t p = false)
    (hf : ∀ f, (t.feeder f).applied = (s.feeder f).applied) : recomputeAfter s t = t := by
  simp [recomputeAfter, recomputeCause, factorCause, hp, hf]

theorem recomputeAfter_of_pedestalCause {s t : State} (p : Pedestal)
    (h : pedestalCause s t p = true) : recomputeAfter s t = t.recompute := by
  have : recomputeCause s t = true := by
    simp only [recomputeCause, Bool.or_eq_true, List.any_eq_true]
    exact .inl ⟨p, mem_pedestals p, h⟩
  simp [recomputeAfter, this]

theorem recomputeAfter_of_counts {s t : State} (p : Pedestal)
    (h : s.countsForPower p ≠ t.countsForPower p) : recomputeAfter s t = t.recompute :=
  recomputeAfter_of_pedestalCause p (by simp [pedestalCause, h])

theorem recomputeAfter_of_factor {s t : State} (f : Feeder)
    (h : (t.feeder f).applied ≠ (s.feeder f).applied) : recomputeAfter s t = t.recompute := by
  have : recomputeCause s t = true := by
    simp only [recomputeCause, factorCause, Bool.or_eq_true, List.any_eq_true]
    refine .inr ⟨f, by cases f <;> simp, ?_⟩
    simpa using fun e => h e.symm
  simp [recomputeAfter, this]

/-- An event that leaves the sessions, the allotment and the loop entries alone has no cause. -/
theorem recomputeAfter_of_same {s t : State} (h1 : t.account.slots = s.account.slots)
    (h2 : t.allot = s.allot) (h3 : t.loop.entries = s.loop.entries) : recomputeAfter s t = t := by
  apply recomputeAfter_of_noCause
  · intro p
    apply pedestalCause_eq_false <;>
      simp [State.loopEntry_congr h3, State.entry, h2, State.countsForPower, State.session,
        State.slot, h1]
  · intro f
    simp [State.feeder, h2]

/-! ### Events -/

theorem State.quiet_of_running {s : State} {f : State → State} (h : s.resetAsserted = false) :
    s.quiet f = (f s).finish := by simp [State.quiet, h]

theorem State.event_of_running {s : State} {f : State → State} (h : s.resetAsserted = false) :
    s.event f = (recomputeAfter s (f s)).finish := by simp [State.event, h]

theorem State.expiry_some {s : State} {left : Nat} {f : State → State}
    (h : s.resetAsserted = false) :
    s.expiry (some left) f = (recomputeAfter s (f (s.advance left))).finish := by
  simp [State.expiry, State.event, State.advanceTo, h]

@[simp] theorem State.expiry_none (s : State) (f : State → State) : s.expiry none f = s := rfl

/-! ### Arrivals -/

/-- The state in which a payment request is treated: an open read window has ended. -/
def State.windowEnded (s : State) : State := { s with pay := { s.pay with window := none } }

theorem State.payArrive_reply {s x : State} {kind : Byte} {treat : State → Treated} {r : Reply}
    (h : s.pay.state.takes = true) (ht : treat s.windowEnded = { state := x, reply := some r }) :
    s.payArrive kind treat = x.payReply kind s.pay.state.ready r := by
  simp only [State.windowEnded] at ht
  simp only [State.payArrive]
  split
  · next b hs =>
    have hw : s.pay.state = .working b := hs
    rw [hw] at h; cases h
  · rw [ht]

theorem State.payArrive_deferred {s x : State} {kind : Byte} {treat : State → Treated}
    (h : s.pay.state.takes = true) (ht : treat s.windowEnded = { state := x, reply := none }) :
    s.payArrive kind treat =
      { x with pay := { x.pay with state := .working s.pay.state.ready } } := by
  simp only [State.windowEnded] at ht
  simp only [State.payArrive]
  split
  · next b hs =>
    have hw : s.pay.state = .working b := hs
    rw [hw] at h; cases h
  · rw [ht]

theorem State.siteArrive_reply {s x : State} {kind : Byte} {treat : State → Treated} {r : Reply}
    (h : s.site.state.takes = true) (ht : treat s = { state := x, reply := some r }) :
    s.siteArrive kind treat = x.siteReply kind s.site.state.ready r := by
  unfold State.siteArrive
  split
  · next b hs =>
    have hw : s.site.state = .working b := hs
    rw [hw] at h; cases h
  · rw [show treat _ = _ from ht]

theorem State.siteArrive_deferred {s x : State} {kind : Byte} {treat : State → Treated}
    (h : s.site.state.takes = true) (ht : treat s = { state := x, reply := none }) :
    s.siteArrive kind treat =
      { x with site := { x.site with state := .working s.site.state.ready } } := by
  unfold State.siteArrive
  split
  · next b hs =>
    have hw : s.site.state = .working b := hs
    rw [hw] at h; cases h
  · rw [show treat _ = _ from ht]

theorem State.gate_of_serves {s : State} {treat : State → Treated} (b : Bool)
    (h : ParkState.serves s.park.state = true) : s.gate b treat = treat s := by
  cases b <;> simp only [State.gate] <;> cases hs : s.park.state <;>
    first | rfl | (rw [hs] at h; cases h)

theorem State.payServes_split {s : State} (h : s.payServes = true) :
    s.resetAsserted = false ∧ s.pay.state.takes = true ∧ ParkState.serves s.park.state = true := by
  simpa [State.payServes, State.payTakes, and_assoc] using h

theorem State.siteServes_split {s : State} (h : s.siteServes = true) :
    s.resetAsserted = false ∧ s.site.state.takes = true ∧ ParkState.serves s.park.state = true := by
  simpa [State.siteServes, State.siteTakes, and_assoc] using h

/-- A served payment request that is answered: its treatment, the reply, the recompute, the end. -/
theorem State.payRequest_answered {s x : State} {r : PayRequest} {o : OutcomeCode}
    {body : List Byte} (h : s.payServes = true) (ht : r.treat s.windowEnded = x.answer o body) :
    s.payRequest r = (recomputeAfter s
      (x.payReply r.kind s.pay.state.ready { outcome := o, body := body })).finish := by
  obtain ⟨h1, h2, h3⟩ := State.payServes_split h
  rw [State.payRequest, State.event_of_running h1,
    State.payArrive_reply (x := x) (r := { outcome := o, body := body }) h2]
  rw [State.gate_of_serves _ (by simpa [State.windowEnded] using h3)]
  exact ht

/-- A served payment request whose treatment leaves the sessions, the allotment and the loop entries
alone: no recompute. -/
theorem State.payRequest_quiet {s x : State} {r : PayRequest} {o : OutcomeCode} {body : List Byte}
    (h : s.payServes = true) (ht : r.treat s.windowEnded = x.answer o body)
    (h1 : x.account.slots = s.account.slots) (h2 : x.allot = s.allot)
    (h3 : x.loop.entries = s.loop.entries) :
    s.payRequest r =
      (x.payReply r.kind s.pay.state.ready { outcome := o, body := body }).finish := by
  rw [State.payRequest_answered h ht, recomputeAfter_of_same]
  · exact h1
  · exact h2
  · exact h3

/-- A served payment request that is answered and changes nothing but the port. -/
theorem State.payRequest_refused {s : State} {r : PayRequest} {o : OutcomeCode}
    {body : List Byte} (h : s.payServes = true)
    (ht : r.treat s.windowEnded = s.windowEnded.answer o body) :
    s.payRequest r = (s.payReplied r.kind o body).finish := by
  rw [State.payRequest_answered h ht,
    recomputeAfter_of_same (s := s) (t := s.windowEnded.payReply _ _ _) rfl rfl rfl]
  rfl

/-- A served site request that is answered. -/
theorem State.siteRequest_answered {s x : State} {r : SiteRequest} {o : OutcomeCode}
    {body : List Byte} (h : s.siteServes = true) (ht : r.treat s = x.answer o body) :
    s.siteRequest r =
      (x.siteReply r.kind s.site.state.ready { outcome := o, body := body }).finish := by
  obtain ⟨h1, h2, h3⟩ := State.siteServes_split h
  rw [State.siteRequest, State.quiet_of_running h1,
    State.siteArrive_reply (x := x) (r := { outcome := o, body := body }) h2]
  rw [State.gate_of_serves _ h3]
  exact ht

/-- A served site request that is answered and changes nothing but the port. -/
theorem State.siteRequest_refused {s : State} {r : SiteRequest} {o : OutcomeCode}
    {body : List Byte} (h : s.siteServes = true) (ht : r.treat s = s.answer o body) :
    s.siteRequest r = (s.siteReplied r.kind o body).finish := by
  rw [State.siteRequest_answered h ht]
  rfl

end Sys2Proof.Machine
end

