-- ==== Sys2Proof/Laws/Ports.lean ====
section
/-! SUPPORT. The end of an open read window commutes with the operations that a payment request's
treatment uses, so that a treated request can be read from the state in which it arrived; and a void
is no cause of a recompute. -/

namespace Sys2Proof.Machine
open Sys2Proof

/-- R22: the queue with a record that joins it as WRITING. -/
def State.joinQueue (s : State) (r : SettlementRecord) : State :=
  { s with store := { s.store with
      queue := s.store.queue ++
        [{ session := r.session, closeSequence := r.closeSequence, body := .built r,
           state := .writing, notDurable := false, corrupt := false, slot := none,
           eraseFirst := false }] } }

theorem State.enqueueRecord_eq (s : State) (r : SettlementRecord) :
    s.enqueueRecord r = match (s.joinQueue r).claimFor r.closeSequence with
      | some (t, _) => t.joinFirst (.recordWrite r.closeSequence)
      | none => (s.joinQueue r).endNotDurable r.closeSequence := rfl

theorem State.windowEnded_chooseSlot (s : State) : s.windowEnded.chooseSlot = s.chooseSlot := rfl

theorem State.windowEnded_takeSlot (s : State) (c : SlotClaim) :
    s.windowEnded.takeSlot c = (s.takeSlot c).windowEnded := by
  by_cases h : s.slotState c.slot = .erasing
  · have h' : s.windowEnded.slotState c.slot = .erasing := h
    simp only [State.takeSlot, h, h', if_true]
  · have h' : s.windowEnded.slotState c.slot ≠ .erasing := h
    simp only [State.takeSlot, h, h', if_false]
    rfl

theorem State.windowEnded_enqueueRecord (s : State) (r : SettlementRecord) :
    s.windowEnded.enqueueRecord r = (s.enqueueRecord r).windowEnded := by
  have hj : s.windowEnded.joinQueue r = (s.joinQueue r).windowEnded := rfl
  simp only [State.enqueueRecord_eq, hj, State.claimFor, State.windowEnded_chooseSlot]
  cases (s.joinQueue r).chooseSlot with
  | none => rfl
  | some c => simp only [State.windowEnded_takeSlot]; rfl

theorem State.windowEnded_reportCount (s : State) :
    s.windowEnded.reportCount = s.reportCount.windowEnded := by
  by_cases h : (decide (s.park.state = .draining) && decide (s.occupied = 0)) = true
  · have h' : (decide (s.windowEnded.park.state = .draining)
        && decide (s.windowEnded.occupied = 0)) = true := h
    unfold State.reportCount
    simp only []
    rw [if_pos h, if_pos h']
    rfl
  · have h' : ¬ (decide (s.windowEnded.park.state = .draining)
        && decide (s.windowEnded.occupied = 0)) = true := h
    unfold State.reportCount
    simp only []
    rw [if_neg h, if_neg h']
    rfl

/-- R14: a void, with the authorisation queue spelled out. -/
theorem State.void_eq {s : State} {p : Pedestal} {x : Session} (hx : s.session p = some x)
    (refused : Bool) :
    s.void p refused =
      ({ s with account := { s.account with
          slots := putCell s.account.slots p
            { s.slot p with session := none, refused := refused, lastEnded := x.number }
          authQueue := s.account.authQueue.filter fun q => decide (q ≠ p) } } :
        State).reportCount := by
  simp only [State.void, hx]
  rfl

theorem State.windowEnded_void (s : State) (p : Pedestal) (refused : Bool) :
    s.windowEnded.void p refused = (s.void p refused).windowEnded := by
  cases hx : s.session p with
  | none =>
    have e : s.windowEnded.session p = none := hx
    simp [State.void, e, hx]
  | some x =>
    have e : s.windowEnded.session p = some x := hx
    simp only [State.void, e, hx]
    rw [← State.windowEnded_reportCount]
    rfl

/-- R22: the close-sequence counter after a close. -/
def State.countClose (s : State) : State :=
  { s with account := { s.account with nextClose := s.account.nextClose + 1 } }

/-- R23: the slot after a close. -/
def State.freeSlot (s : State) (p : Pedestal) (refused : Bool) (number : Nat) : State :=
  (s.putSlot p { s.slot p with session := none, refused := refused, lastEnded := number }).endTracking p

theorem State.close_eq {s : State} {p : Pedestal} {x : Session} (hx : s.session p = some x)
    (reason : CloseReason) (refused : Bool) :
    s.close p reason refused =
      ((s.countClose.enqueueRecord (x.record p s.account.nextClose reason s.clockNow)).freeSlot p
        refused x.number).reportCount := by
  simp only [State.close, hx]
  rfl

theorem State.windowEnded_close (s : State) (p : Pedestal) (reason : CloseReason) (refused : Bool) :
    s.windowEnded.close p reason refused = (s.close p reason refused).windowEnded := by
  cases hx : s.session p with
  | none =>
    have e : s.windowEnded.session p = none := hx
    simp [State.close, e, hx]
  | some x =>
    have e : s.windowEnded.session p = some x := hx
    have hc : s.windowEnded.countClose = s.countClose.windowEnded := rfl
    have hr : x.record p s.windowEnded.account.nextClose reason s.windowEnded.clockNow
      = x.record p s.account.nextClose reason s.clockNow := rfl
    rw [State.close_eq hx, State.close_eq e, hc, hr, State.windowEnded_enqueueRecord,
      ← State.windowEnded_reportCount]
    rfl

theorem State.windowEnded_enterStopping (s : State) (p : Pedestal) (reason : StopReason) :
    s.windowEnded.enterStopping p reason = (s.enterStopping p reason).windowEnded := by
  cases hx : s.session p with
  | none =>
    have e : s.windowEnded.session p = none := hx
    simp [State.enterStopping, e, hx]
  | some x =>
    have e : s.windowEnded.session p = some x := hx
    simp only [State.enterStopping, e, hx]
    split <;> rfl

/-- R22: a record's joining leaves all but the notices of the Payment Port alone. -/
theorem State.enqueueRecord_pay (s : State) (r : SettlementRecord) :
    (s.enqueueRecord r).pay = { s.pay with notices := (s.enqueueRecord r).pay.notices } := by
  rw [State.enqueueRecord_eq]
  unfold State.claimFor
  cases (s.joinQueue r).chooseSlot with
  | none => rfl
  | some c =>
    show ((s.joinQueue r).takeSlot c).pay
      = { s.pay with notices := ((s.joinQueue r).takeSlot c).pay.notices }
    rw [State.takeSlot_pay]
    rfl

/-- R22: a close leaves all but the notices of the Payment Port alone. -/
theorem State.close_pay (s : State) (p : Pedestal) (reason : CloseReason) (refused : Bool) :
    (s.close p reason refused).pay =
      { s.pay with notices := (s.close p reason refused).pay.notices } := by
  cases hx : s.session p with
  | none => simp only [State.close, hx]
  | some x =>
    rw [State.close_eq hx, State.reportCount_pay]
    exact State.enqueueRecord_pay _ _

/-- R23: the slots after a close. -/
theorem State.close_slots {s : State} {p : Pedestal} {x : Session} (hx : s.session p = some x)
    (reason : CloseReason) (refused : Bool) :
    (s.close p reason refused).account.slots = (s.putSlot p
      { s.slot p with session := none, refused := refused, lastEnded := x.number }).account.slots := by
  rw [State.close_eq hx, State.reportCount_account]
  simp only [State.freeSlot, State.endTracking, State.putEntry, State.putSlot, State.slot,
    State.enqueueRecord_account, State.countClose]

/-- R14: a void of an AUTHORISING session leaves every pedestal's membership of READY and DELIVERING
alone. -/
theorem State.void_countsForPower (s : State) (p q : Pedestal) (refused : Bool)
    (h : ∀ x, s.session p = some x → x.state = .authorising) :
    (s.void p refused).countsForPower q = s.countsForPower q := by
  cases hx : s.session p with
  | none => simp [State.void, hx]
  | some x =>
    have hs : (s.void p refused).account.slots = (s.putSlot p
        { s.slot p with session := none, refused := refused, lastEnded := x.number }).account.slots :=
      by simp only [State.void, hx, State.reportCount_account]
    rw [State.countsForPower_congr (State.session_congr hs q)]
    unfold State.countsForPower
    rw [State.session_putSlot]
    by_cases e : q = p
    · rw [if_pos e, e, hx]
      simp [h x hx, SessionState.counts]
    · rw [if_neg e]

theorem recomputeAfter_void {s t : State} {p : Pedestal} {refused : Bool}
    (h : ∀ x, s.session p = some x → x.state = .authorising)
    (h1 : t.account.slots = (s.void p refused).account.slots) (h2 : t.allot = s.allot)
    (h3 : t.loop.entries = s.loop.entries) : recomputeAfter s t = t := by
  apply recomputeAfter_of_noCause
  · intro q
    apply pedestalCause_eq_false
    · rw [State.loopEntry_congr h3]
    · rw [State.countsForPower_congr (State.session_congr h1 q), State.void_countsForPower _ _ _ _ h]
    · rw [State.loopEntry_congr h3]
    · rw [State.entry, h2]; rfl
  · intro f
    rw [State.feeder, h2]; rfl

end Sys2Proof.Machine
end

