-- ==== Sys2Proof/Laws/Time.lean ====
section
/-! SUPPORT. What the passing of time changes (the Time Base and the timers alone), that it is no cause
of a recompute, and how a written slot counts for power. -/

namespace Sys2Proof.Machine
open Sys2Proof

/-! ### Membership of READY and DELIVERING -/

theorem State.countsForPower_putSlot (s : State) (p q : Pedestal) (x : SessionSlot) :
    (s.putSlot p x).countsForPower q =
      if q = p then (x.session.map fun y => SessionState.counts y.state).getD false
      else s.countsForPower q := by
  unfold State.countsForPower
  rw [State.session_putSlot]
  by_cases e : q = p
  · rw [if_pos e, if_pos e]
    cases x.session <;> rfl
  · rw [if_neg e, if_neg e]

theorem State.countsForPower_putSession (s : State) (p q : Pedestal) (x : Session) :
    (s.putSession p x).countsForPower q =
      if q = p then SessionState.counts x.state else s.countsForPower q := by
  rw [State.putSession, State.countsForPower_putSlot]
  rfl

theorem State.countsForPower_of_session {s : State} {p : Pedestal} {x : Session}
    (h : s.session p = some x) : s.countsForPower p = SessionState.counts x.state := by
  simp [State.countsForPower, h]

theorem State.countsForPower_of_free {s : State} {p : Pedestal} (h : s.session p = none) :
    s.countsForPower p = false := by
  simp [State.countsForPower, h]

/-! ### Advance -/

@[simp] theorem State.advance_session (n : Nat) (s : State) (p : Pedestal) :
    (State.advance n s).session p = (s.session p).map (Session.advance n) := by
  simp [State.session, State.slot, State.advance]

@[simp] theorem State.advance_slot (n : Nat) (s : State) (p : Pedestal) :
    (State.advance n s).slot p =
      { s.slot p with session := (s.session p).map (Session.advance n) } := by
  simp [State.session, State.slot, State.advance]

@[simp] theorem State.advance_countsForPower (n : Nat) (s : State) (p : Pedestal) :
    (State.advance n s).countsForPower p = s.countsForPower p := by
  unfold State.countsForPower
  rw [State.advance_session]
  cases s.session p <;> rfl

@[simp] theorem State.advance_entry (n : Nat) (s : State) (p : Pedestal) :
    (State.advance n s).entry p =
      { s.entry p with rampTimer := runDown n (s.entry p).rampTimer } := by
  simp [State.entry, State.advance]

@[simp] theorem State.advance_feeder (n : Nat) (s : State) (f : Feeder) :
    (State.advance n s).feeder f = s.feeder f := rfl

@[simp] theorem State.advance_loopEntry (n : Nat) (s : State) (p : Pedestal) :
    (State.advance n s).loopEntry p = s.loopEntry p := rfl

@[simp] theorem State.advance_occupied (n : Nat) (s : State) :
    (State.advance n s).occupied = s.occupied := by
  apply State.occupied_congr
  intro p
  rw [State.advance_session]
  cases s.session p <;> rfl

/-- An event that begins at a timer's due moment and changes no input of the recompute. -/
theorem recomputeAfter_advance {s t : State} (n : Nat)
    (hc : ∀ p, t.countsForPower p = s.countsForPower p)
    (ht : ∀ p, (t.entry p).tracking = (s.entry p).tracking)
    (hl : t.loop.entries = (State.advance n s).loop.entries)
    (hf : ∀ f, (t.feeder f).applied = (s.feeder f).applied) : recomputeAfter s t = t := by
  apply recomputeAfter_of_noCause
  · intro p
    apply pedestalCause_eq_false
    · rw [State.loopEntry_congr hl, State.advance_loopEntry]
    · exact hc p
    · rw [State.loopEntry_congr hl, State.advance_loopEntry]
    · exact ht p
  · exact hf

theorem State.sessionTimer_eq {s : State} {p : Pedestal} {x : Session} (h : s.session p = some x)
    (timer : Session → Option Nat) : s.sessionTimer p timer = timer x := by
  simp [State.sessionTimer, h]

/-! ### Close and void, as the recompute sees them -/

/-- R22, R61: a close ends its own pedestal's tracking and changes no other entry of the table. -/
theorem State.close_entry {s : State} {p : Pedestal} {x : Session} (hx : s.session p = some x)
    (reason : CloseReason) (refused : Bool) (q : Pedestal) :
    (s.close p reason refused).entry q =
      if q = p then (s.entry p).endTracking else s.entry q := by
  rw [State.close_eq hx, State.entry, State.reportCount_allot, ← State.entry, State.freeSlot,
    State.endTracking, State.entry_putEntry]
  have h : ∀ r y, ((s.countClose.enqueueRecord r).putSlot p y).entry = s.entry := by
    intro r y
    funext o
    show cell (s.countClose.enqueueRecord r).allot.entries o = _
    rw [State.enqueueRecord_allot]
    rfl
  rw [h]

theorem State.close_feeder {s : State} {p : Pedestal} {x : Session} (hx : s.session p = some x)
    (reason : CloseReason) (refused : Bool) (f : Feeder) :
    (s.close p reason refused).feeder f = s.feeder f := by
  rw [State.close_eq hx, State.feeder, State.reportCount_allot]
  show cell (s.countClose.enqueueRecord _).allot.feeders _ = _
  rw [State.enqueueRecord_allot]
  rfl

/-- R22: after a close the pedestal counts no more, and every other one as before. -/
theorem State.close_countsForPower {s : State} {p : Pedestal} {x : Session}
    (hx : s.session p = some x) (reason : CloseReason) (refused : Bool) (q : Pedestal) :
    (s.close p reason refused).countsForPower q = if q = p then false else s.countsForPower q := by
  rw [State.countsForPower_congr (State.session_congr (State.close_slots hx _ _) q),
    State.countsForPower_putSlot]
  rfl

end Sys2Proof.Machine
end

