-- ==== Sys2Proof/Laws/Slots.lean ====
section
/-! SUPPORT. An operation at one pedestal leaves the session slot and the allotment entry of every
other pedestal alone, and the treatment of a report keeps the tables of the allotment. -/

namespace Sys2Proof.Machine
open Sys2Proof

/-- The slot and the allotment entry of a pedestal are those of another state. -/
def State.agreesAt (q : Pedestal) (t s : State) : Prop := t.slot q = s.slot q ∧ t.entry q = s.entry q

theorem State.agreesAt_rfl (q : Pedestal) (s : State) : s.agreesAt q s := ⟨rfl, rfl⟩

theorem State.agreesAt_trans {q : Pedestal} {s t u : State} (h : u.agreesAt q t)
    (k : t.agreesAt q s) : u.agreesAt q s := ⟨h.1.trans k.1, h.2.trans k.2⟩

theorem State.putSession_agreesAt (s : State) {p q : Pedestal} (x : Session) (h : q ≠ p) :
    (s.putSession p x).agreesAt q s := ⟨State.slot_putSession_of_ne _ _ h, by simp⟩

theorem State.putSlot_agreesAt (s : State) {p q : Pedestal} (x : SessionSlot) (h : q ≠ p) :
    (s.putSlot p x).agreesAt q s := ⟨State.slot_putSlot_of_ne _ _ h, by simp⟩

theorem State.putEntry_agreesAt (s : State) {p q : Pedestal} (e : AllotEntry) (h : q ≠ p) :
    (s.putEntry p e).agreesAt q s := ⟨by simp, State.entry_putEntry_of_ne _ _ h⟩

theorem State.endTracking_agreesAt (s : State) {p q : Pedestal} (h : q ≠ p) :
    (s.endTracking p).agreesAt q s := State.putEntry_agreesAt _ _ h

theorem State.raisePay_agreesAt (s : State) (q : Pedestal) (c : PayCause) :
    (s.raisePay c).agreesAt q s := ⟨rfl, rfl⟩

theorem State.raiseSite_agreesAt (s : State) (q : Pedestal) (c : SiteCause) :
    (s.raiseSite c).agreesAt q s := ⟨rfl, rfl⟩

theorem State.reportCount_agreesAt (s : State) (q : Pedestal) : s.reportCount.agreesAt q s :=
  ⟨by simp, by simp⟩

theorem State.void_agreesAt (s : State) {p q : Pedestal} (refused : Bool) (h : q ≠ p) :
    (s.void p refused).agreesAt q s := by
  cases hx : s.session p with
  | none => simp only [State.void, hx]; exact State.agreesAt_rfl q s
  | some x =>
    rw [State.void_eq hx]
    exact State.agreesAt_trans (State.reportCount_agreesAt _ _)
      (State.putSlot_agreesAt s _ h)

theorem State.close_agreesAt (s : State) {p q : Pedestal} (reason : CloseReason) (refused : Bool)
    (h : q ≠ p) : (s.close p reason refused).agreesAt q s := by
  cases hx : s.session p with
  | none => simp only [State.close, hx]; exact State.agreesAt_rfl q s
  | some x =>
    constructor
    · rw [State.slot_congr (State.close_slots hx _ _), State.slot_putSlot_of_ne _ _ h]
    · rw [State.close_entry hx, if_neg h]

theorem State.enterStopping_agreesAt (s : State) {p q : Pedestal} (reason : StopReason)
    (h : q ≠ p) : (s.enterStopping p reason).agreesAt q s := by
  unfold State.enterStopping
  split
  · exact State.agreesAt_rfl q s
  · next x _ =>
    simp only []
    have k := State.agreesAt_trans
      (State.endTracking_agreesAt (s.putSession p (x.toStopping reason)) h)
      (State.putSession_agreesAt s (x.toStopping reason) h)
    split
    · exact State.agreesAt_trans (State.raisePay_agreesAt _ _ _) k
    · exact k

theorem State.enterParked_agreesAt (s : State) {p q : Pedestal} (by_ : ParkedBy) (h : q ≠ p) :
    (s.enterParked p by_).agreesAt q s := by
  unfold State.enterParked
  split
  · exact State.agreesAt_rfl q s
  · exact State.agreesAt_trans (State.endTracking_agreesAt _ h) (State.putSession_agreesAt s _ h)

theorem State.revive_agreesAt (s : State) {p q : Pedestal} (x : Session) (h : q ≠ p) :
    (s.revive p x).agreesAt q s := by
  unfold State.revive
  split
  · exact State.enterStopping_agreesAt _ _ h
  · exact State.putSession_agreesAt _ _ h

theorem State.testReservation_agreesAt (s : State) (q : Pedestal) :
    s.testReservation.agreesAt q s := ⟨by simp, by simp⟩

theorem State.openSession_agreesAt (s : State) {p q : Pedestal} (reading : Nat) (stamp : Word32)
    (h : q ≠ p) : (s.openSession p reading stamp).agreesAt q s := by
  unfold State.openSession
  exact State.agreesAt_trans (State.testReservation_agreesAt _ _)
    (State.agreesAt_trans (State.reportCount_agreesAt _ _)
      (State.putSlot_agreesAt s _ h))

theorem State.refuseOpening_agreesAt (s : State) {p q : Pedestal} (h : q ≠ p) :
    (s.refuseOpening p).agreesAt q s := by
  unfold State.refuseOpening
  simp only []
  split
  · exact State.putSlot_agreesAt _ _ h
  · exact State.agreesAt_trans (State.testReservation_agreesAt _ _) (State.putSlot_agreesAt _ _ h)

theorem State.billSession_agreesAt (s : State) {p q : Pedestal} (x : Session) (reading : Nat)
    (stamp : Word32) (h : q ≠ p) : (s.billSession p x reading stamp).agreesAt q s := by
  unfold State.billSession
  simp only []
  have k := State.putSession_agreesAt s (x.billReading (s.entry p).peak reading stamp) h
  split
  · refine State.agreesAt_trans (State.enterStopping_agreesAt _ _ h) ?_
    split
    · exact State.agreesAt_trans (State.raiseSite_agreesAt _ _ _) k
    · exact k
  · split
    · exact State.agreesAt_trans (State.raiseSite_agreesAt _ _ _) k
    · exact k

theorem State.takeReading_agreesAt (s : State) {p q : Pedestal} (reading : Nat) (stamp : Word32)
    (h : q ≠ p) : (s.takeReading p reading stamp).agreesAt q s := by
  unfold State.takeReading
  refine State.agreesAt_trans (State.putEntry_agreesAt _ _ h) ?_
  split
  · exact State.agreesAt_rfl q s
  · split
    · exact State.putSession_agreesAt _ _ h
    · exact State.billSession_agreesAt _ _ _ _ h

theorem State.reportFree_agreesAt (s : State) {p q : Pedestal} (r : Report) (stamp : Word32)
    (h : q ≠ p) : (s.reportFree p r stamp).agreesAt q s := by
  unfold State.reportFree
  split
  · exact State.putSlot_agreesAt _ _ h
  · split
    · exact State.agreesAt_rfl q s
    · split
      · exact State.openSession_agreesAt _ _ _ h
      · exact State.refuseOpening_agreesAt _ h
  · exact State.agreesAt_rfl q s

theorem State.reportCharging_agreesAt (s : State) {p q : Pedestal} (r : Report) (h : q ≠ p) :
    (s.reportCharging p r).agreesAt q s := by
  unfold State.reportCharging
  split
  · exact State.close_agreesAt _ _ _ h
  · split
    · exact State.enterStopping_agreesAt _ _ h
    · split
      · exact State.enterParked_agreesAt _ _ h
      · exact State.agreesAt_rfl q s

theorem State.reportStopping_agreesAt (s : State) {p q : Pedestal} (x : Session) (r : Report)
    (h : q ≠ p) : (s.reportStopping p x r).agreesAt q s := by
  unfold State.reportStopping
  split
  · exact State.close_agreesAt _ _ _ h
  · exact State.agreesAt_rfl q s
  · split
    · exact State.enterParked_agreesAt _ _ h
    · exact State.agreesAt_rfl q s

theorem State.reportParked_agreesAt (s : State) {p q : Pedestal} (x : Session) (r : Report)
    (h : q ≠ p) : (s.reportParked p x r).agreesAt q s := by
  unfold State.reportParked
  split
  · exact State.close_agreesAt _ _ _ h
  · split
    · split
      · exact State.putSession_agreesAt _ _ h
      · split
        · exact State.revive_agreesAt _ _ h
        · exact State.agreesAt_rfl q s
    · exact State.agreesAt_rfl q s

theorem State.applyReport_agreesAt (s : State) {p q : Pedestal} (r : Report) (stamp : Word32)
    (h : q ≠ p) : (s.applyReport p r stamp).agreesAt q s := by
  unfold State.applyReport
  split
  · exact State.reportFree_agreesAt _ _ _ h
  · split
    · split
      · exact State.void_agreesAt _ _ h
      · exact State.agreesAt_rfl q s
    · exact State.reportCharging_agreesAt _ _ h
    · exact State.reportCharging_agreesAt _ _ h
    · exact State.reportStopping_agreesAt _ _ _ h
    · exact State.reportParked_agreesAt _ _ _ h

/-- R3: an accepted report leaves the slot and the entry of every other pedestal alone. -/
theorem State.treatReport_agreesAt (s : State) {p q : Pedestal} (r : Report) (stamp : Word32)
    (h : q ≠ p) : (s.treatReport p r stamp).agreesAt q s :=
  State.agreesAt_trans (State.putEntry_agreesAt _ _ h)
    (State.agreesAt_trans (State.applyReport_agreesAt _ _ _ h)
      (State.takeReading_agreesAt _ _ _ h))

/-! ### The tables of the allotment under a report -/

/-- The feeder table, the site ceiling and the parameters: what of the allotment no report changes. -/
def Allotment.tables (a : Allotment) : Vector FeederEntry 4 × Nat × Parameters :=
  (a.feeders, a.siteCeiling, a.parameters)

@[simp] theorem State.putEntry_tables (s : State) (p : Pedestal) (e : AllotEntry) :
    (s.putEntry p e).allot.tables = s.allot.tables := rfl

@[simp] theorem State.endTracking_tables (s : State) (p : Pedestal) :
    (s.endTracking p).allot.tables = s.allot.tables := rfl

@[simp] theorem State.close_tables (s : State) (p : Pedestal) (reason : CloseReason)
    (refused : Bool) : (s.close p reason refused).allot.tables = s.allot.tables := by
  cases hx : s.session p with
  | none => simp [State.close, hx]
  | some x => simp [State.close_eq hx, State.freeSlot, State.countClose]

@[simp] theorem State.enterStopping_tables (s : State) (p : Pedestal) (reason : StopReason) :
    (s.enterStopping p reason).allot.tables = s.allot.tables := by
  unfold State.enterStopping
  split
  · rfl
  · simp only []; split <;> simp

@[simp] theorem State.enterParked_tables (s : State) (p : Pedestal) (by_ : ParkedBy) :
    (s.enterParked p by_).allot.tables = s.allot.tables := by
  unfold State.enterParked; split <;> simp

@[simp] theorem State.takeReading_tables (s : State) (p : Pedestal) (reading : Nat)
    (stamp : Word32) : (s.takeReading p reading stamp).allot.tables = s.allot.tables := by
  unfold State.takeReading State.billSession
  simp only [State.putEntry_tables]
  repeat' split
  all_goals simp

/-- R3: steps 1 and 2 of an accepted report keep the feeder table, the site ceiling and the
parameters. -/
@[simp] theorem State.readAndApply_tables (s : State) (p : Pedestal) (r : Report) (stamp : Word32) :
    (s.readAndApply p r stamp).allot.tables = s.allot.tables := by
  unfold State.readAndApply State.applyReport State.reportCharging State.reportStopping
    State.reportParked State.revive
  repeat' split
  all_goals simp

end Sys2Proof.Machine
end

