-- ==== Sys2Proof/Tests/Slice0.lean ====
section
/-! SUPPORT. Tests: ill-formed commands are refused by the well-formedness check; the manual's worked
examples come out as it says; and for each obligation with hypotheses a witness that meets them,
clause by clause, at the ends of the ranges. -/

open Sys2Proof Sys2Proof.Machine

namespace Sys2Proof.Tests

-- One theorem at a time: elaborated side by side they ask for more threads than a checker may have.
set_option Elab.async false

/-! ### Small states -/

/-- The tariff of row 3 in section 6.8. -/
def tariff : Tariff := { rate := 59000, flatFee := 100, grace := 10, perMinute := 40, cap := 600 }

def segment : Segment :=
  { row := 3, snapshot := tariff, start := { seconds := 0, clockSet := false }, billed := 0, raw := 0 }

/-- Session 5 with nothing billed, in a given state. -/
def session (st : SessionState) : Session :=
  { number := 5, state := st, stopReason := none, customerRef := some 7, hold := some 1500,
    opened := { seconds := 0, clockSet := false }, authorised := some { seconds := 0, clockSet := false },
    meterStart := some 100, lastReading := 100, lastStamp := 0, billed := 0, unbilled := 0,
    earlier := [], current := segment, overstayTime := 0, minutesEnded := 0, overstayMinutes := 0,
    overstayFee := 0, flatFee := 0, parkedBy := none, meterDispute := false, segmentsFull := false,
    stopIgnored := false, authorisationWindow := none, stopWindow := none, linkLossTimer := none }

/-- Session 5 as it stands while it waits for its authorisation. -/
def fresh : Session :=
  { session .authorising with
    customerRef := none, hold := none, authorised := none, meterStart := none,
    authorisationWindow := some 120000 }

/-- An open park after start-up, with sixty-four session numbers to give. -/
def opened : State :=
  { State.reset with
    park := { State.reset.park with state := .open, startStep := none, restored := true }
    account := { State.reset.account with reservationLimit := 65 } }

/-- The open park in another park state. -/
def parkIn (x : ParkState) : State := { opened with park := { opened.park with state := x } }

/-- The open park with a session at a pedestal. -/
def holding (p : Pedestal) (x : Session) : State :=
  let s := opened.putSession p x
  { s with
    park := { s.park with openCount := 1 }
    account := { s.account with authQueue := if x.state = .authorising then [p] else [] } }

/-- A present pedestal on feeder A with a request. -/
def asking (s : State) (p : Pedestal) (feeder : Feeder) (cls : Fin 4) (request : Nat) : State :=
  (s.putEntry p { s.entry p with
      cfg := { present := true, feeder := feeder, cls := cls, cap := 4000, rampMode := .hard } }).putLoopEntry
    p { s.loopEntry p with
      latest := some { state := .charging, stopPressed := false, emergency := false,
                       request := request, draw := 0, reading := 0 } }

/-- A state with a site ceiling and the ceilings of feeders A and B. -/
def ceilings (s : State) (site a b : Nat) : State :=
  ({ s with allot := { s.allot with siteCeiling := site } } |>.putFeeder .a
    { s.feeder .a with cfg := { FeederConfig.default with ceiling := a } }).putFeeder .b
    { s.feeder .b with cfg := { FeederConfig.default with ceiling := b }, applied := 800 }

/-- An answer frame of a pedestal, received without a framing error. -/
def answer (p : Pedestal) (code flags : Byte) (request draw reading : Nat) : List LoopChar :=
  (closeFrame 0xAA ([BitVec.ofNat 8 p.val, code, flags] ++ bytesOf 2 request ++ bytesOf 2 draw
    ++ bytesOf 4 reading)).map fun b => { byte := b, framingError := false }

/-- The open park with an exchange in flight at a pedestal. -/
def polling (s : State) (p : Pedestal) : State :=
  { s with loop := { s.loop with exchange := some { pedestal := p, left := 2 }, nextRound := some 98 } }

/-- A settlement record with a close sequence. -/
def record (n : Nat) : SettlementRecord :=
  { session := n, closeSequence := n, pedestal := 0, customerRef := 0, hold := 0,
    opened := { seconds := 0, clockSet := false }, authorised := { seconds := 0, clockSet := false },
    closed := { seconds := 0, clockSet := false }, meterStart := 0, meterEnd := 0, billed := 0,
    unbilled := 0, overstayMinutes := 0, overstayFee := 0, flatFee := 0, total := 0,
    closeReason := .unplugged, meterDispute := false, segmentsFull := false, stopIgnored := false,
    segments := [segment] }

/-- A queue entry for it. -/
def queuedAs (n : Nat) (st : RecordState) (notDurable : Bool) (slot : Option RecordSlot) : QueueEntry :=
  { session := n, closeSequence := n, body := .built (record n), state := st, notDurable := notDurable,
    corrupt := false, slot := slot, eraseFirst := false }

/-- The open park with a settlement queue. -/
def queueing (q : List QueueEntry) : State :=
  { opened with
    store := { opened.store with queue := q }
    account := { opened.account with nextClose := 100 } }

/-- A store operation in flight. -/
def flying (s : State) (op : Operation) (left : Nat) : State := s.putFlight (some { op := op, left := left })

/-! ### Well-formedness -/

/-- An answer frame that is not complete. -/
theorem test_wellFormed_answer_short :
    Instr.wellFormed (.answerFrameReceived ((answer 0 0 0 0 0 0).take 13)) = false := by decide

theorem test_wellFormed_answer_whole :
    Instr.wellFormed (.answerFrameReceived (answer 0 0 0 0 0 0)) = true := by decide

/-- STATUS is no unknown request of the Payment Port. -/
theorem test_wellFormed_pay_known :
    Instr.wellFormed (.payUnknownRequest PayRequest.status.frame false) = false
      ∧ Instr.wellFormed (.payUnknownRequest [] false) = false
      ∧ Instr.wellFormed (.payUnknownRequest PayRequest.status.frame true) = true := by decide

/-- STATUS is no unknown request of the Site Port. -/
theorem test_wellFormed_site_known :
    Instr.wellFormed (.siteUnknownRequest SiteRequest.status.frame false) = false
      ∧ Instr.wellFormed (.siteUnknownRequest [] false) = false
      ∧ Instr.wellFormed (.siteUnknownRequest PayRequest.status.frame false) = true := by decide

/-- A slot that a scan finds changed twice. -/
theorem test_wellFormed_scan_twice :
    Instr.wellFormed (.scanEnd [(47, SlotCells.blank), (47, SlotCells.blank)]) = false := by decide

/-! ### The manual's worked examples -/

/-- R188: over 31H to 39H the computation gives 29B1H. -/
theorem test_crc_example :
    crc16 [0x31, 0x32, 0x33, 0x34, 0x35, 0x36, 0x37, 0x38, 0x39] = 0x29B1 := by decide +kernel

/-- Table 12.5: STATUS of the Payment Port, its check value worked by hand from R188's polynomial. A kind
outside the port's column, a wrong check value, and a known kind of the wrong length. -/
theorem test_status_bytes : PayRequest.status.frame = [0x3C, 0x01, 0xF1, 0xD1]
    ∧ readPayFrame [0x3C, 0x01, 0xF1, 0xD1] false = .request .status
    ∧ readPayFrame [0x3C, 0x01, 0xF1, 0xD0] false = .badFrame 0x01
    ∧ readSiteFrame [0x3C, 0x01, 0xF1, 0xD1] false = .unknownKind 0x01
    ∧ readPayFrame (closeFrame 0x3C [0x01, 0x00]) false = .badFrame 0x01 := by decide

/-- Table 4.1 and R67's ends. -/
theorem test_temperature_codes :
    temperatureOf 2718 = 695 ∧ temperatureOf 2731 = 700 ∧ temperatureOf 3272 = 898
      ∧ temperatureOf 16 = -295 ∧ temperatureOf 4079 = 1193
      ∧ inRange 15 = false ∧ inRange 4090 = false := by decide

/-- Section 4.8: the curve of feeder B. -/
theorem test_curve_of_feeder_B :
    let c : FeederConfig := { ceiling := 3000, sensorEnabled := true, tlow := 700, thigh := 900, floor := 400 }
    curveFactor c 703 = 991 ∧ curveFactor c 762 = 814 ∧ curveFactor c 765 = 805 ∧ curveFactor c 766 = 802
      ∧ curveFactor c 898 = 406 := by decide

/-- Section 4.8, completions 3, 4 and 8: the band holds 814 against 805, applies 802, and the mark
applies 406. -/
theorem test_derating_band :
    let e : FeederEntry :=
      { FeederEntry.reset with
        cfg := { ceiling := 3000, sensorEnabled := true, tlow := 700, thigh := 900, floor := 400 }
        applied := 814, firstMark := false }
    (e.evaluate 2909).applied = 814 ∧ (e.evaluate 2911).applied = 802
      ∧ (e.evaluate 4090).applied = 400 ∧ ((e.evaluate 4090).evaluate 3272).applied = 406 := by decide

/-- Table 5 of R84: the plausibility bound; 5.9: the delta across the meter's wrap. -/
theorem test_bound_and_wrap :
    plausibilityBound 1500 100 = 25 ∧ plausibilityBound 4000 100 = 33 ∧ plausibilityBound 2000 4000 = 297
      ∧ plausibilityBound 60 100 = 20 ∧ meterDelta 2 999999998 = 4 ∧ meterDelta 69 999999950 = 119 := by
  decide

/-- Section 6.8: the committed amount and the close total of session 6044. -/
theorem test_money_of_6044 :
    let x : Session :=
      { session .parked with
        billed := 22910, current := { segment with billed := 22910, raw := 1351690000 }, flatFee := 100,
        minutesEnded := 11, overstayMinutes := 1, overstayFee := 40 }
    x.committed = 1491 ∧ x.endMinute.overstayFee = 49 ∧ x.endMinute.endMinute.overstayFee = 49
      ∧ x.endMinute.endMinute.closeTotal = 1501 := by decide

/-- Section 2.11's park: five pedestals over two feeders. -/
def park211 : State :=
  let s := ceilings opened 6000 3500 3000
  let put (t : State) (p : Pedestal) (f : Feeder) (cls : Fin 4) (n request : Nat) : State :=
    (asking t p f cls request).putSession p { session .delivering with number := n }
  let s := put s 0 .a 1 5120 3500
  let s := put s 1 .a 2 5104 1500
  let s := put s 2 .a 2 5107 2500
  let s := put s 3 .b 2 5111 3500
  put s 4 .b 2 5115 500

/-- Section 2.11: targets 3380, 60, 60, 1900 and 500. -/
theorem test_allotment_2_11 :
    (park211.allotted.map fun b => (b.pedestal.val, b.g))
      = [(0, 3380), (1, 60), (2, 60), (3, 1900), (4, 500)] := by decide +kernel

/-- Section 2.13: the share falls to one. -/
theorem test_share_falls_to_one :
    let bid (n : Nat) : Bid :=
      { pedestal := 0, feeder := .a, cls := 3, session := n, demand := 400, g := 0 }
    let room : Room := { site := 957, feeders := Vector.replicate 4 3000 }
    let a := admission 190 room [bid 1, bid 2, bid 3, bid 4, bid 5]
    (shareClasses [0, 1, 2, 3] a.1 a.2).map (·.g) = [192, 192, 191, 191, 191] := by decide +kernel

/-- Section 3.9: the third low draw enters tracking at 1340, 1100 lowers the cap to 1150, and 1140
ends tracking. -/
theorem test_tapering_vehicle :
    let q := Parameters.default
    let e : AllotEntry := { AllotEntry.reset with target := 1500, grant := 1500, runCount := 2 }
    (e.offerDraw q true 1290).tracking = some 1340
      ∧ ({ e with grant := 1340, tracking := some 1340, runCount := 0 }.offerDraw q true 1100).tracking
        = some 1150
      ∧ ({ e with grant := 1150, tracking := some 1150, runCount := 0 }.offerDraw q true 1140).tracking
        = none := by decide

/-- Section 3.8: the jump to the minimum grant, an expiry's step, and a cut. -/
theorem test_soft_ramp :
    let q := Parameters.default
    let e : AllotEntry := { AllotEntry.reset with cfg := { PedestalConfig.default with cap := 4000 } }
    let a := e.settleTarget q 1900 (some 1900)
    a.grant = 60 ∧ a.rampTimer = some 1000 ∧ (a.rampStep q).grant = 160
      ∧ ((a.rampStep q).settleTarget q 400 (some 100)).grant = 100
      ∧ ((a.rampStep q).settleTarget q 400 (some 100)).rampTimer = none
      ∧ ((a.rampStep q).settleTarget q 400 (some 100)).peak = 160 := by decide

/-- Section 12.5: the reply to FETCH with two segments is 131 bytes. -/
theorem test_fetch_reply_length :
    (replyFrame 0x07 false false .open
      { outcome := .done, body := recordBytes { record 1 with segments := [segment, segment] } false false }).length
      = 131 := by decide +kernel

/-- Table 1.5: a FREE slot's three commands, a session's, and STOP in POWER_FAIL. -/
theorem test_commands :
    (SessionSlot.reset.command false, ({ SessionSlot.reset with refused := true }.command false),
      ({ SessionSlot.reset with unavailable := true }.command false)) = (.standby, .declined, .unavailable)
      ∧ (holding 15 (session .ready)).command 15 = .wait
      ∧ (parkIn .powerFail).command 15 = .stop := by decide

/-! ### Witnesses of the statements: the step, the end of an event, the laws -/

/-- The hypotheses of IdleStepCountsAMillisecond, clause by clause, and each kind of due event. -/
theorem witness_IdleStepCountsAMillisecond :
    (let s := { State.reset with resetAsserted := true }
     s.pending = [] ∧ s.resetAsserted = true)
    ∧ opened.pending = [] ∧ opened.resetAsserted = false
    ∧ (let s : State := { opened with loop := { opened.loop with
         nextRound := some 1, exchange := some { pedestal := 15, left := 1 } } }
       .answerWindowClose ∈ (State.advance 1 s).dueEvents ∧ .roundStart ∈ (State.advance 1 s).dueEvents)
    ∧ (let x := { session .parked with
         authorisationWindow := some 1, stopWindow := some 1, linkLossTimer := some 1
         overstayTime := 59999 }
       (State.advance 1 (opened.putSession 15 x)).dueEvents = [.authorisationWindowExpiry 15,
         .stopWindowExpiry 15, .linkLossTimerExpiry 15, .overstayMinuteEnd 15])
    ∧ (State.advance 1 (opened.putEntry 15 { AllotEntry.reset with rampTimer := some 1 })).dueEvents
      = [.rampTimerExpiry 15] := by decide +kernel

/-- The hypotheses of EventEndSettlesOutputs. -/
theorem witness_EventEndSettlesOutputs :
    State.reset.park.state = .starting ∧ (flying opened (.erase 0) 4).store.flight.isSome = true
      ∧ opened.store.firstClass = [] ∧ opened.store.secondClass = []
      ∧ payCondition 2 = false ∧ siteCondition 0 = false := by decide

/-- The open park with work waiting. -/
def working (first second : List WorkItem) : State :=
  let s := queueing [queuedAs 9 .writing false (some 47)]
  { s with store := { s.store with firstClass := first, secondClass := second } }

/-- The hypotheses of IdleStoreStartsFirstItem, clause by clause. -/
theorem witness_IdleStoreStartsFirstItem :
    (let s := working [.recordWrite 9] []
     s.park.state ≠ .starting ∧ s.store.flight = none ∧ s.store.firstClass = [.recordWrite 9]
       ∧ s.queued 9 = some (queuedAs 9 .writing false (some 47)))
    ∧ (let s := working [.settledMark 9] []
       s.park.state ≠ .starting ∧ s.store.flight = none ∧ s.store.firstClass = [.settledMark 9]
         ∧ s.queued 9 = some (queuedAs 9 .writing false (some 47)))
    ∧ (let s := working [.reservation 65] []
       s.park.state ≠ .starting ∧ s.store.flight = none ∧ s.store.firstClass = [.reservation 65])
    ∧ (let s := working [] [.erase 47]
       s.park.state ≠ .starting ∧ s.store.flight = none ∧ s.store.firstClass = []
         ∧ s.store.secondClass = [.erase 47])
    ∧ (let s := working [] [.save Settings.default]
       s.park.state ≠ .starting ∧ s.store.flight = none ∧ s.store.firstClass = []
         ∧ s.store.secondClass = [.save Settings.default]) := by decide

/-- A park with one DELIVERING session and a grant, one queued record, its outputs settled, and a
command waiting. -/
def lawful : State :=
  let s := ceilings (asking (holding 15 (session .delivering)) 15 .a 1 100) 6000 3500 3000
  let s : State :=
    { s with
      store := { s.store with queue := [queuedAs 9 .presentable true none] }
      account := { s.account with nextClose := 10 } }
  { s.recompute.finish with pending := [.setSiteCeiling 50] }

theorem lawful_session (p : Pedestal) :
    lawful.session p = if p = 15 then some (session .delivering) else none := by
  revert p; decide +kernel

/-- The hypothesis `step s = .next t` of every law, at a state with a session and a grant. -/
theorem witness_laws_step : ∃ t, step lawful = .next t := ⟨_, rfl⟩

theorem witness_StepKeepsOrderLaw : OrderLaw lawful := by
  unfold OrderLaw AllotEntry.inOrder; decide +kernel

theorem witness_StepKeepsGrantLaw : GrantLaw lawful := by
  unfold GrantLaw AllotEntry.grantSound; decide +kernel

theorem witness_StepKeepsCountingLaw : CountingLaw lawful := by
  unfold CountingLaw; decide +kernel

/-- `lawful` with draw tracking on at its session. -/
def tracked : State := lawful.putEntry 15 { lawful.entry 15 with tracking := some 100 }

/-- The second hypotheses of StepKeepsCountingLaw, at a session whose tracking is on. -/
theorem witness_StepKeepsTrackingLaw :
    (tracked.entry 15).tracking = some 100 ∧ RoomLaw tracked ∧ TrackingLaw tracked
      ∧ ∃ t, step tracked = .next t := by
  refine ⟨by decide +kernel, by unfold RoomLaw; decide +kernel, ⟨by decide +kernel, fun p x h => ?_⟩,
    ⟨_, rfl⟩⟩
  have e : tracked.session p = lawful.session p := rfl
  rw [e, lawful_session] at h
  split at h <;> cases h
  exact ⟨nofun, nofun⟩

theorem witness_StepKeepsCeilingLaw : CeilingLaw lawful := by
  refine ⟨fun f => ?_, ?_, ?_⟩
  · cases f <;> decide +kernel
  · decide +kernel
  · decide +kernel

theorem witness_StepKeepsMeterLaw : MeterLaw lawful := by
  intro p x h
  rw [lawful_session] at h
  split at h
  · cases h; exact ⟨by decide, by intro m h; cases h; decide⟩
  · cases h

theorem witness_StepKeepsMoneyLaw : MoneyLaw lawful := by
  intro p x h
  rw [lawful_session] at h
  split at h
  · cases h; unfold Session.priced; decide
  · cases h

theorem witness_StepKeepsTableLaw : TableLaw lawful := by
  refine ⟨by decide +kernel, by decide +kernel, fun p => ⟨fun h => ?_, fun ⟨x, hx, hs⟩ => ?_⟩,
    fun p x hx hs => ?_⟩
  · have e : lawful.account.authQueue = [] := by decide +kernel
    rw [e] at h; cases h
  · rw [lawful_session] at hx; split at hx <;> cases hx; cases hs
  · rw [lawful_session] at hx; split at hx <;> cases hx; cases hs

theorem witness_StepKeepsQueueLaw : QueueLaw lawful := by unfold QueueLaw; decide +kernel

/-- A state whose one session is that of `lawful` at a pedestal, with nothing reserved, keeps the laws of
the session numbers when its queue does. -/
theorem numberLaw_of_one {s : State} {p : Pedestal} {x : Session}
    (h : ∀ q, s.session q = if q = p then some x else none) (hx : x.number < s.account.nextNumber)
    (hl : s.account.nextNumber ≤ s.account.reservationLimit)
    (hr : s.account.reservationLimit ≤ Config.lastReservation) (ha : s.account.authQueue = [])
    (hq : s.store.queue.Pairwise fun e f => e.session ≠ f.session)
    (hn : ∀ e ∈ s.store.queue, e.session < s.account.nextNumber ∧ x.number ≠ e.session)
    (hw : s.store.reservations = []) (hs : s.park.startStep = none) : NumberLaw s := by
  have one : ∀ q y, s.session q = some y → q = p ∧ y = x := fun q y hy => by
    rw [h] at hy
    by_cases e : q = p
    · exact ⟨e, by simpa [e] using hy.symm⟩
    · simp [e] at hy
  refine ⟨fun q y hy => ?_, fun q r y z hy hz _ => ?_, hl, hr, by simp [ha], hq,
    fun e he => ⟨(hn e he).1, fun q y hy => ?_⟩, by simp [hw], by simp [hw], by simp [hs]⟩
  · rw [(one q y hy).2]; exact hx
  · rw [(one q y hy).1, (one r z hz).1]
  · rw [(one q y hy).2]; exact (hn e he).2

/-- `lawful` with its session numbers below the counter. -/
def numbered : State := { lawful with account := { lawful.account with nextNumber := 10 } }

/-- The state after the first restore of a blank array. -/
def afterRestore : State :=
  match exec (.restoreEnd { settings := none, counter := none }) State.reset with
  | .next t => t
  | _ => State.reset

/-- The second hypotheses of StepKeepsQueueLaw: a session and a queued record, and the start of the
start-up sequence with a limit that the medium gives. -/
theorem witness_StepKeepsNumberLaw :
    NumberLaw numbered ∧ numbered.park.startStep.isSome = false ∧ (∃ t, step numbered = .next t)
      ∧ State.reset.park.startStep.isSome = true
      ∧ afterRestore.account.reservationLimit = 1 ∧ afterRestore.store.queue = [] := by
  refine ⟨numberLaw_of_one (p := 15) (x := session .delivering) lawful_session ?_ ?_ ?_ ?_ ?_ ?_ ?_ ?_,
    ?_, ⟨_, rfl⟩, ?_, ?_, ?_⟩ <;> decide +kernel

theorem witness_StepKeepsRoomLaw : RoomLaw lawful := by unfold RoomLaw; decide +kernel

theorem witness_StepKeepsLinkLaw : LinkLaw lawful := by
  intro p
  have h : lawful.loopEntry p = { LoopEntry.reset with latest := (lawful.loopEntry p).latest } := by
    revert p; decide +kernel
  rw [h]; exact ⟨show 0 < 64 by decide, rfl⟩

theorem witness_StepKeepsPinLaw : PinLaw lawful := by
  have h : lawful.resetAsserted = false := by decide +kernel
  unfold PinLaw State.conditionsHold
  rw [h]; decide +kernel

/-! ### Witnesses: frames and ports -/

/-- A character received as it was sent, and one broken. -/
def heard (b : Byte) : LoopChar := { byte := b, framingError := false }

def broken (b : Byte) : LoopChar := { byte := b, framingError := true }

/-- The hypotheses of NumbersAndCheckValues and AnswerFramesReadBack: the first and the last code that
names a state and the first that names none, a wrong check value, a frame one character short, and a
framing error in its last character. -/
theorem witness_AnswerFramesReadBack :
    (0 < 1) ∧ reportStateOf 0x00 = some .idle ∧ reportStateOf 0x04 = some .fault
      ∧ 5 ≤ (0x05 : Byte).toNat ∧ (∀ c ∈ [broken 0x55], c.byte ≠ 0xAA)
      ∧ (15 : Pedestal) ≠ 0 ∧ (0 : BitVec 16) ≠ crc16 [0x0F, 0, 0]
      ∧ (heard 0xAA).byte = 0xAA ∧ (List.replicate 12 (heard 0)).length < 13
      ∧ ∃ c ∈ heard 0xAA :: (List.replicate 12 (heard 0) ++ [broken 0]).take 13,
        c.framingError = true := by decide +kernel

/-- The body bytes of a record read with an error, its count byte 9. -/
def image : BodyImage := Vector.ofFn fun i => if i.val = 65 then 9 else 0xFF

/-- The hypotheses of BodiesHaveTheirLengths: a built record, and one that stands as it was read. -/
theorem witness_BodiesHaveTheirLengths :
    (queuedAs 9 .presentable false (some 0)).body = .built (record 9)
      ∧ ({ queuedAs 9 .presentable false (some 0) with body := .asRead image } : QueueEntry).body
        = .asRead image := ⟨rfl, rfl⟩

/-- The hypotheses of ReadoutsAnswer, clause by clause. -/
theorem witness_ReadoutsAnswer :
    opened.payTakes = true ∧ opened.siteTakes = true ∧ State.reset.payTakes = true
      ∧ opened.payServes = true ∧ opened.account.authQueue = []
      ∧ (holding 15 fresh).payServes = true ∧ (holding 15 fresh).account.authQueue = [15]
      ∧ (holding 15 fresh).session 15 = some fresh
      ∧ 16 ≤ (0x10 : Byte).toNat ∧ (0x0F : Byte).toNat = (15 : Pedestal).val
      ∧ opened.session 15 = none
      ∧ (queueing [queuedAs 9 .presentable false (some 0)]).payServes = true
      ∧ (queueing [queuedAs 9 .presentable false (some 0)]).store.queue
        = [queuedAs 9 .presentable false (some 0)]
      ∧ (queueing [queuedAs 9 .writing false (some 0)]).payServes = true
      ∧ (queuedAs 9 .writing false (some 0)).state ≠ .presentable
      ∧ opened.siteServes = true ∧ 4 ≤ (0x04 : Byte).toNat
      ∧ (0x03 : Byte).toNat = Feeder.code .d := by decide

/-- A port at work, with a reply waiting, and with a window open. -/
def payPort (st : PortState) (window : Option Bool) : State :=
  { opened with pay := { opened.pay with state := st, window := window } }

def sitePort (st : PortState) : State := { opened with site := { opened.site with state := st } }

/-- The hypotheses of PortsDiscardAndRefuse, clause by clause. -/
theorem witness_PortsDiscardAndRefuse :
    (payPort (.working true) none).resetAsserted = false
      ∧ (payPort (.working true) none).pay.state = .working true
      ∧ (sitePort (.working false)).resetAsserted = false
      ∧ (sitePort (.working false)).site.state = .working false
      ∧ (parkIn .starting).payTakes = true ∧ (parkIn .starting).park.state = .starting
      ∧ (parkIn .powerFail).payTakes = true ∧ (parkIn .powerFail).park.state = .powerFail
      ∧ (parkIn .starting).siteTakes = true ∧ (parkIn .powerFail).siteTakes = true
      ∧ PayRequest.fetch ≠ .status ∧ SiteRequest.quiesce ≠ .status
      ∧ (0x3C : Byte) ≠ 0x0F ∧ ([0x3C] : List Byte) ≠ [] := by decide

/-- The hypotheses of UnknownFramesAreAnswered, clause by clause: each way to be unsound, a known kind of
the wrong length, and a sound frame of a kind that neither port has. -/
theorem witness_UnknownFramesAreAnswered :
    opened.payTakes = true ∧ opened.siteTakes = true
      ∧ ([0x00, 0x21] : List Byte).head? ≠ some 0x3C ∧ ([0x00, 0x21] : List Byte).head? ≠ some 0x0F
      ∧ ([0x3C, 0x01, 0xF1] : List Byte).length < 4
      ∧ checkHolds (([0x3C, 0x01, 0xF1, 0xD0] : List Byte).drop 1) = false
      ∧ (0x01, 0) ∈ [((0x01 : Nat), (0 : Nat))] ∧ (closeFrame 0x3C [0x01, 0x00]).length ≠ 0 + 4
      ∧ checkHolds ((closeFrame 0x3C [0x01, 0x00]).drop 1) = true
      ∧ (closeFrame 0x3C [0x0B]).head? = some 0x3C ∧ (closeFrame 0x3C [0x0B]).length = 4
      ∧ checkHolds ((closeFrame 0x3C [0x0B]).drop 1) = true
      ∧ payLength 0x0B = none ∧ siteLength 0x30 = none
      ∧ unknownSiteFrame (closeFrame 0x3C [0x30]) false = true := by decide

/-- The hypotheses of ReadsSendTheReply, clause by clause, at a read of the whole frame and of one byte
less. -/
theorem witness_ReadsSendTheReply :
    opened.resetAsserted = false
      ∧ (payPort (.replyReady [1, 2, 3]) (some true)).pay.state = .replyReady [1, 2, 3]
      ∧ (payPort (.replyReady [1, 2, 3]) (some true)).pay.window = some true
      ∧ (payPort (.replyReady [1, 2, 3]) (some true)).resetAsserted = false
      ∧ ([1, 2, 3] : List Byte).length ≤ 3 ∧ 2 < ([1, 2, 3] : List Byte).length
      ∧ (payPort .idle (some false)).pay.window = some false
      ∧ (sitePort (.replyReady [1, 2, 3])).site.state = .replyReady [1, 2, 3]
      ∧ (sitePort (.working false)).site.state.ready = false := by decide

/-- The hypotheses of NoticesAreAcknowledgedAndLevelled, at the ends of the ranges. -/
theorem witness_NoticesAreAcknowledgedAndLevelled :
    opened.payServes = true ∧ opened.siteServes = true
      ∧ (0x1F : Byte).toNat < 32 ∧ 32 ≤ (0x20 : Byte).toNat
      ∧ (0x7F : Byte).toNat < 128 ∧ 128 ≤ (0x80 : Byte).toNat
      ∧ 5 ≤ (0x05 : Byte).toNat ∧ 8 ≤ (0x08 : Byte).toNat ∧ 7 ≤ (0x07 : Byte).toNat := by decide

/-! ### Witnesses: the payment side -/

/-- The hypotheses of UnmatchedPairsAreRefused, clause by clause. -/
theorem witness_UnmatchedPairsAreRefused :
    (holding 15 fresh).payServes = true ∧ 16 ≤ (0x10 : Byte).toNat ∧ (0 : Word32).toNat = 0
      ∧ (0x0F : Byte).toNat = (15 : Pedestal).val ∧ (6 : Word32).toNat ≠ 0
      ∧ (holding 15 fresh).sessionNumber 15 ≠ (6 : Word32).toNat
      ∧ ((holding 15 fresh).slot 15).lastEnded ≠ (6 : Word32).toNat
      ∧ ((opened.putSlot 15 { SessionSlot.reset with lastEnded := 6 }).slot 15).lastEnded
        = (6 : Word32).toNat
      ∧ (opened.putSlot 15 { SessionSlot.reset with lastEnded := 6 }).sessionNumber 15
        ≠ (6 : Word32).toNat
      ∧ (opened.putSlot 15 { SessionSlot.reset with lastEnded := 6 }).payServes = true
      ∧ 1 ≤ (1 : Word32).toNat ∧ (9999999 : Word32).toNat ≤ 9999999 := by decide

/-- The hypotheses of AuthoriseMakesReady, at the ends of the hold's range. -/
theorem witness_AuthoriseMakesReady :
    (holding 15 fresh).payServes = true ∧ (0 : Word32).toNat = 0 ∧ 9999999 < (10000000 : Word32).toNat
      ∧ (0x0F : Byte).toNat = (15 : Pedestal).val ∧ (holding 15 fresh).session 15 = some fresh
      ∧ fresh.number = (5 : Word32).toNat ∧ (5 : Word32).toNat ≠ 0
      ∧ 1 ≤ (1 : Word32).toNat ∧ (9999999 : Word32).toNat ≤ 9999999 ∧ fresh.state = .authorising
      ∧ (holding 15 (session .ready)).payServes = true
      ∧ (holding 15 (session .ready)).session 15 = some (session .ready)
      ∧ (session .ready).state ≠ .authorising := by decide

/-- The hypotheses of DeclineAndCancelFollowTheirTables, for a session in each state. -/
theorem witness_DeclineAndCancelFollowTheirTables (st : SessionState) :
    (holding 0 (session st)).payServes = true ∧ (0x00 : Byte).toNat = (0 : Pedestal).val
      ∧ (holding 0 (session st)).session 0 = some (session st)
      ∧ (session st).number = (5 : Word32).toNat ∧ (5 : Word32).toNat ≠ 0
      ∧ (session st).state = st := by
  cases st <;> decide

/-- The hypotheses of CloseBuildsTheRecord, with a record already in the queue. -/
theorem witness_CloseBuildsTheRecord :
    lawful.session 15 = some (session .delivering) ∧ (0 : Pedestal) ≠ 15
      ∧ lawful.store.queue.length = 1
      ∧ (∀ e ∈ lawful.store.queue, e.closeSequence < lawful.account.nextClose) := by decide +kernel

/-- A store whose slots are all in one state, but for the last. -/
def slotsIn (s : State) (all last : SlotState) : State :=
  { s with store := { s.store with slotStates := putCell (Vector.replicate 48 all) 47 last } }

/-- An erase of the last slot in flight, no slot FREE, and a queue. -/
def erasing47 (q : List QueueEntry) (all : SlotState) : State :=
  flying (slotsIn (queueing q) all .erasing) (.erase 47) 4

/-- The hypotheses of RecordsClaimSlots, clause by clause: the last slot FREE, the erase in flight with its
slot unclaimed and claimed, the last slot MARKED, and none to claim. -/
theorem witness_RecordsClaimSlots :
    opened.queued 9 = none
      ∧ (slotsIn opened .held .free).slotState 47 = .free
      ∧ (∀ j, j < 47 → (slotsIn opened .held .free).slotState j ≠ .free)
      ∧ (∀ j, (erasing47 [] .held).slotState j ≠ .free)
      ∧ (erasing47 [] .held).store.flight = some { op := .erase 47, left := 4 }
      ∧ (erasing47 [] .held).claimant 47 = none ∧ (erasing47 [] .held).slotState 47 = .erasing
      ∧ (∀ j, (erasing47 [queuedAs 8 .writing false (some 47)] .marked).slotState j ≠ .free)
      ∧ (erasing47 [queuedAs 8 .writing false (some 47)] .marked).claimant 47
        = some (queuedAs 8 .writing false (some 47))
      ∧ (erasing47 [queuedAs 8 .writing false (some 47)] .marked).slotState 0 = .marked
      ∧ (∀ j, (slotsIn opened .held .marked).slotState j ≠ .free)
      ∧ (slotsIn opened .held .marked).store.flight = none
      ∧ (slotsIn opened .held .marked).slotState 47 = .marked
      ∧ (∀ j, j < 47 → (slotsIn opened .held .marked).slotState j ≠ .marked)
      ∧ (∀ j, (slotsIn opened .held .bad).slotState j ≠ .free)
      ∧ (∀ j, (slotsIn opened .held .bad).slotState j ≠ .marked) := by decide +kernel

/-- A queue of two records whose head is in a given state. -/
def twoQueued (st : RecordState) (notDurable : Bool) : State :=
  queueing [queuedAs 9 st notDurable (some 0), queuedAs 10 .presentable false (some 47)]

/-- The hypotheses of SettleFollowsItsTable, clause by clause. -/
theorem witness_SettleFollowsItsTable :
    (twoQueued .writing false).payServes = true ∧ (twoQueued .presentable true).payServes = true
      ∧ (∀ e ∈ (twoQueued .writing false).store.queue, e.session ≠ (0 : Word32).toNat)
      ∧ (twoQueued .presentable false).store.queue
        = queuedAs 9 .presentable false (some 0) :: [queuedAs 10 .presentable false (some 47)]
      ∧ (queuedAs 9 .presentable false (some 0)).session ≠ (10 : Word32).toNat
      ∧ (∃ y ∈ [queuedAs 10 .presentable false (some 47)], y.session = (10 : Word32).toNat)
      ∧ (queuedAs 9 .writing false (some 0)).session = (9 : Word32).toNat
      ∧ (queuedAs 9 .writing false (some 0)).state = .writing
      ∧ (queuedAs 9 .presentable true (some 0)).state = .presentable
      ∧ (queuedAs 9 .presentable true (some 0)).notDurable = true
      ∧ (queuedAs 9 .presentable false (some 0)).notDurable = false := by decide

/-! ### Witnesses: the site side -/

/-- The hypotheses of SiteCeilingAndClockAreSet, at the limit and above it. -/
theorem witness_SiteCeilingAndClockAreSet :
    opened.siteServes = true ∧ (60000 : BitVec 16).toNat ≤ 60000 ∧ 60000 < (60001 : BitVec 16).toNat := by
  decide

/-- The hypotheses of SetFeederStores: an argument out of range, and the ends of each range. -/
theorem witness_SetFeederStores :
    opened.siteServes = true ∧ 4 ≤ (0x04 : Byte).toNat ∧ 2 ≤ (0x02 : Byte).toNat
      ∧ (BitVec.ofInt 16 (-301)).toInt < -300 ∧ 1199 < (1200 : BitVec 16).toInt
      ∧ (700 : BitVec 16).toInt ≤ (700 : BitVec 16).toInt ∧ 1000 < (1001 : BitVec 16).toNat
      ∧ (0x03 : Byte).toNat = Feeder.code .d ∧ (0x01 : Byte).toNat = true.toNat
      ∧ (0x00 : Byte).toNat = false.toNat ∧ -300 ≤ (BitVec.ofInt 16 (-300)).toInt
      ∧ (BitVec.ofInt 16 (-300)).toInt < (1199 : BitVec 16).toInt ∧ (1199 : BitVec 16).toInt ≤ 1199
      ∧ (1000 : BitVec 16).toNat ≤ 1000 := by decide

/-- The hypotheses of SetPedestalStores, clause by clause. -/
theorem witness_SetPedestalStores :
    opened.siteServes = true ∧ 16 ≤ (0x10 : Byte).toNat ∧ 2 ≤ (0x02 : Byte).toNat
      ∧ 4 ≤ (0x04 : Byte).toNat
      ∧ (0x0F : Byte).toNat = (15 : Pedestal).val ∧ (0x01 : Byte).toNat = true.toNat
      ∧ (0x03 : Byte).toNat = Feeder.code .d ∧ (0x03 : Byte).toNat = (3 : Fin 4).val
      ∧ (0x01 : Byte).toNat = RampMode.code .soft ∧ opened.session 15 = none
      ∧ (holding 15 fresh).siteServes = true ∧ ((holding 15 fresh).session 15).isSome = true := by decide

/-- The hypotheses of SetParametersStores. -/
theorem witness_SetParametersStores :
    opened.siteServes = true ∧ 2 ≤ (0x02 : Byte).toNat ∧ (0x01 : Byte).toNat = true.toNat
      ∧ (0x00 : Byte).toNat = false.toNat := by decide

/-- The open park with row 7 valid and bound to a present pedestal 15. -/
def boundPark : State :=
  let s := asking opened 15 .a 1 0
  { s with account := { s.account with
      rows := putCell s.account.rows 7 { valid := true, tariff := tariff }
      bindings := putCell s.account.bindings 15 7 } }

/-- The hypotheses of WriteTariffRowWrites, clause by clause. -/
theorem witness_WriteTariffRowWrites :
    boundPark.siteServes = true ∧ 8 ≤ (0x08 : Byte).toNat ∧ 2 ≤ (0x02 : Byte).toNat
      ∧ 999999 < (1000000 : BitVec 24).toNat
      ∧ (0x07 : Byte).toNat = (7 : RowIndex).val ∧ (0x00 : Byte).toNat = false.toNat
      ∧ (0x01 : Byte).toNat = true.toNat ∧ (999999 : BitVec 24).toNat ≤ 999999
      ∧ (∃ p, (boundPark.entry p).cfg.present = true ∧ cell boundPark.account.bindings p = 7)
      ∧ (∀ p, cell boundPark.account.bindings p = 0 → (boundPark.entry p).cfg.present = false) := by
  decide +kernel

/-- A session with a given number of earlier segments and a given current rate. -/
def segmented (st : SessionState) (earlier rate : Nat) : Session :=
  { session st with
    earlier := List.replicate earlier segment
    current := { segment with snapshot := { tariff with rate := rate } } }

/-- Pedestal 15 with such a session, under row 7, whose rate is 59,000. -/
def bindable (st : SessionState) (earlier rate : Nat) : State :=
  boundPark.putSession 15 (segmented st earlier rate)

/-- The hypotheses of BindTariffBinds, clause by clause: an invalid row, and sessions with room for one
more segment and with none. -/
theorem witness_BindTariffBinds :
    boundPark.siteServes = true ∧ 8 ≤ (0x08 : Byte).toNat
      ∧ (0x07 : Byte).toNat = (7 : RowIndex).val ∧ (0x00 : Byte).toNat = (0 : RowIndex).val
      ∧ (cell boundPark.account.rows 0).valid = false ∧ (cell boundPark.account.rows 7).valid = true
      ∧ (0x8000 : BitVec 16).getLsbD (0 : Pedestal).val = false
      ∧ (0x8000 : BitVec 16).getLsbD (15 : Pedestal).val = true
      ∧ (bindable .authorising 0 59000).siteServes = true
      ∧ (bindable .authorising 0 59000).session 15 = some (segmented .authorising 0 59000)
      ∧ (segmented .authorising 0 59000).state = .authorising
      ∧ (bindable .ready 0 59000).session 15 = some (segmented .ready 0 59000)
      ∧ (segmented .ready 0 59000).state ≠ .authorising
      ∧ (segmented .ready 0 59000).current.snapshot = (cell boundPark.account.rows 7).tariff
      ∧ (bindable .parked 6 49500).session 15 = some (segmented .parked 6 49500)
      ∧ (segmented .parked 6 49500).current.snapshot ≠ (cell boundPark.account.rows 7).tariff
      ∧ (segmented .parked 6 49500).earlier.length < 7
      ∧ (bindable .parked 7 49500).session 15 = some (segmented .parked 7 49500)
      ∧ (segmented .parked 7 49500).current.snapshot ≠ (cell boundPark.account.rows 7).tariff
      ∧ 7 ≤ (segmented .parked 7 49500).earlier.length := by
  decide +kernel

/-- The hypotheses of QuiesceAndResumeFollowTheirTable, for each park state, and with no session and one
open in DRAINING. -/
theorem witness_QuiesceAndResumeFollowTheirTable :
    (parkIn .open).siteTakes = true ∧ (parkIn .open).park.state = .open
      ∧ (parkIn .open).park.openCount = 0
      ∧ (holding 15 (session .ready)).siteTakes = true
      ∧ (holding 15 (session .ready)).park.state = .open
      ∧ 0 < (holding 15 (session .ready)).park.openCount
      ∧ (parkIn .draining).siteTakes = true ∧ (parkIn .draining).park.state = .draining
      ∧ (parkIn .quiesced).siteTakes = true ∧ (parkIn .quiesced).park.state = .quiesced
      ∧ (∀ p, (parkIn .draining).session p = none)
      ∧ (((parkIn .draining).putSession 15 (session .ready)).session 15).isSome = true := by decide

/-- The hypothesis of SaveSettingsQueuesACopy. -/
theorem witness_SaveSettingsQueuesACopy : opened.siteServes = true := by decide

/-! ### Witnesses: timers -/

/-- The hypotheses of AuthorisationWindowVoids, with a window that has its whole time to run and one
that is due. -/
theorem witness_AuthorisationWindowVoids :
    (holding 15 fresh).resetAsserted = false ∧ (holding 15 fresh).session 15 = some fresh
      ∧ fresh.authorisationWindow = some 120000 ∧ fresh.state = .authorising
      ∧ ({ fresh with authorisationWindow := some 0 } : Session).authorisationWindow = some 0
      ∧ opened.session 15 = none ∧ (session .ready).authorisationWindow = none := by decide

/-- The hypotheses of StopWindowParks. -/
theorem witness_StopWindowParks :
    let x := { session .stopping with stopWindow := some 15000 }
    (holding 15 x).resetAsserted = false ∧ (holding 15 x).session 15 = some x
      ∧ x.stopWindow = some 15000 ∧ x.state = .stopping ∧ ((holding 15 x).entry 15).tracking = none
      ∧ (session .stopping).stopWindow = none := by decide

/-- The hypotheses of LinkLossTimerCloses. -/
theorem witness_LinkLossTimerCloses :
    let x := { session .ready with linkLossTimer := some 60000 }
    let y := { session .parked with linkLossTimer := some 0 }
    (holding 15 x).resetAsserted = false ∧ (holding 15 x).session 15 = some x
      ∧ x.linkLossTimer = some 60000 ∧ x.state = .ready
      ∧ (holding 15 y).session 15 = some y ∧ y.linkLossTimer = some 0 ∧ y.state = .parked
      ∧ ((holding 15 y).entry 15).tracking = none ∧ (session .ready).linkLossTimer = none := by decide

/-- The hypotheses of RampExpiryStepsTheGrant. -/
theorem witness_RampExpiryStepsTheGrant :
    let s := opened.putEntry 15 { AllotEntry.reset with target := 1900, grant := 60, rampTimer := some 1000 }
    s.resetAsserted = false ∧ (s.entry 15).rampTimer = some 1000 ∧ (opened.entry 15).rampTimer = none := by
  decide

/-- The hypotheses of OverstayMinuteCharges: the tenth minute, within grace, and the eleventh, beyond
it. -/
theorem witness_OverstayMinuteCharges :
    let x := { session .parked with minutesEnded := 9, overstayTime := 540000 }
    let y := { session .parked with minutesEnded := 10, overstayTime := 600000 }
    (holding 15 x).resetAsserted = false ∧ (holding 15 x).session 15 = some x ∧ x.state = .parked
      ∧ (x.minutesEnded + 1) * 60000 ≤ 4294967295 ∧ x.minutesEnded + 1 ≤ x.current.snapshot.grace
      ∧ (holding 15 y).session 15 = some y ∧ (y.minutesEnded + 1) * 60000 ≤ 4294967295
      ∧ y.current.snapshot.grace < y.minutesEnded + 1 ∧ (session .ready).state ≠ .parked := by decide

/-! ### Witnesses: the loop -/

/-- The hypotheses of RoundStartPolls: pedestal 15 alone due, none due, and a LOST link in an eighth
round. -/
theorem witness_RoundStartPolls :
    let quiet : State := { opened with loop := { opened.loop with nextRound := some 100 } }
    let s := asking quiet 15 .a 1 0
    let lost := s.putLoopEntry 15 { LoopEntry.reset with link := .lost, health := 128 }
    s.resetAsserted = false ∧ s.loop.nextRound = some 100 ∧ s.loop.exchange = none
      ∧ (s.entry 15).cfg.present = true ∧ (s.loopEntry 15).link ≠ .lost
      ∧ (∀ q, q < 15 → (s.entry q).cfg.present = false)
      ∧ quiet.loop.nextRound = some 100 ∧ quiet.loop.exchange = none
      ∧ (∀ p, (quiet.entry p).cfg.present = false)
      ∧ (lost.loopEntry 15).link = .lost ∧ ((7 : Word32) + 1).toNat % 8 = 0
      ∧ (lost.loop.round + 1).toNat % 8 ≠ 0 := by decide +kernel

/-- The hypotheses of MissesWeakenTheLink: a miss that leaves the link GOOD, one that makes it DOUBTFUL,
and one that makes it LOST under a session; then a next exchange, and none. -/
theorem witness_MissesWeakenTheLink :
    let s := polling (holding 15 (session .ready)) 15
    let doubtful := s.putLoopEntry 15 { LoopEntry.reset with health := 56 }
    let lost := s.putLoopEntry 15 { LoopEntry.reset with health := 120, link := .doubtful }
    s.resetAsserted = false ∧ s.loop.exchange = some { pedestal := 15, left := 2 }
      ∧ (s.loopEntry 15).link = .good ∧ min ((s.loopEntry 15).health + 8) 255 < 64
      ∧ 64 ≤ min ((doubtful.loopEntry 15).health + 8) 255
      ∧ 128 ≤ min ((lost.loopEntry 15).health + 8) 255
      ∧ (polling opened 15).session 15 = none ∧ lost.session 15 = some (session .ready)
      ∧ 15 ≤ (15 : Pedestal).val ∧ ((asking opened 15 .a 1 0).entry 15).cfg.present = true
      ∧ (∀ q, q < 15 → ((asking opened 15 .a 1 0).entry q).cfg.present = false)
      ∧ (∀ p : Pedestal, ¬ (15 : Pedestal).val + 1 ≤ p.val) := by decide

/-- The open park with a present pedestal 15 whose row is valid, and its exchange in flight. -/
def openable : State := polling boundPark 15

/-- The hypotheses of AnswersAreAcceptedOrMissed: a PLUGGED answer at a slot that may open, one that
fails its check, and the links of the three clauses. -/
theorem witness_AnswersAreAcceptedOrMissed :
    let frame := (answer 15 0x01 0 0 0 999999999).map (·.byte)
    openable.resetAsserted = false ∧ openable.loop.exchange = some { pedestal := 15, left := 2 }
      ∧ answerFrame (answer 15 0x01 0 0 0 999999999) = some frame
      ∧ (reportOf frame 15 (openable.entry 15).cfg.cap).map (fun r => (r.state, r.reading))
        = some (.plugged, 999999999)
      ∧ reportOf ((answer 14 0x01 0 0 0 0).map (·.byte)) 15 4000 = none
      ∧ (openable.loopEntry 15).link ≠ .lost
      ∧ (({ LoopEntry.reset with link := .lost, recovery := 6 } : LoopEntry).recovery < 7)
      ∧ (7 ≤ ({ LoopEntry.reset with link := .lost, recovery := 7 } : LoopEntry).recovery)
      ∧ openable.session 15 = none ∧ (openable.slot 15).refused = false
      ∧ openable.park.state = .open ∧ openable.store.queue.length < 32
      ∧ openable.account.nextNumber < openable.account.reservationLimit
      ∧ (openable.entry 15).cfg.present = true
      ∧ (cell openable.account.rows (cell openable.account.bindings 15)).valid = true
      ∧ openable.account.nextClose + openable.occupied ≤ 4294967295 := by decide +kernel

/-- The hypotheses of ReadingsAreBilled: a FREE slot, an AUTHORISING session, a delta of 59 Wh against a
bound of 25, and the row of section 6.8 that reaches the threshold. -/
theorem witness_ReadingsAreBilled :
    let s := (holding 15 (session .delivering)).putEntry 15 { AllotEntry.reset with grant := 60, peak := 1500 }
    opened.session 15 = none ∧ (holding 15 fresh).session 15 = some fresh ∧ fresh.state = .authorising
      ∧ s.session 15 = some (session .delivering) ∧ (session .delivering).state ≠ .authorising
      ∧ plausibilityBound (s.entry 15).peak 100 = 25 ∧ meterDelta 159 (session .delivering).lastReading = 59
      ∧ 1500 - s.allot.parameters.holdReserve ≤ 1450 := by decide

/-- The hypotheses of ReportsMoveSessions, for a session in each state. -/
theorem witness_ReportsMoveSessions (st : SessionState) :
    (holding 15 (session st)).session 15 = some (session st) ∧ (session st).state = st := by
  cases st <;> decide

/-- `openable` with a number of session numbers left, and a reservation write waiting or not. -/
def numbersLeft (n : Nat) (waits : Bool) : State :=
  { openable with
    account := { openable.account with nextNumber := 65 - n }
    store := { openable.store with firstClass := if waits then [.reservation 129] else [] } }

/-- The hypotheses of ReportsMoveSessions at a FREE slot: one that opens and leaves 15, 16, or 15 with a
write waiting; one refused without a number, and with one; and the refused flag. -/
theorem witness_ReportsMoveSessions_free :
    openable.session 15 = none ∧ (openable.slot 15).refused = false
      ∧ (numbersLeft 16 false).session 15 = none
      ∧ (numbersLeft 16 false).account.reservationLimit < (numbersLeft 16 false).account.nextNumber + 17
      ∧ (numbersLeft 17 false).account.nextNumber + 17 ≤ (numbersLeft 17 false).account.reservationLimit
      ∧ (numbersLeft 17 false).canOpen 15 = true ∧ (numbersLeft 16 true).canOpen 15 = true
      ∧ (numbersLeft 16 false).canOpen 15 = true ∧ (numbersLeft 16 false).store.reserving = false
      ∧ .reservation 129 ∈ (numbersLeft 16 true).store.firstClass
      ∧ (numbersLeft 0 false).account.reservationLimit ≤ (numbersLeft 0 false).account.nextNumber
      ∧ (numbersLeft 0 false).canOpen 15 = false ∧ (parkIn .draining).canOpen 15 = false
      ∧ (parkIn .draining).account.nextNumber < (parkIn .draining).account.reservationLimit
      ∧ ((openable.putSlot 15 { SessionSlot.reset with refused := true }).slot 15).refused = true := by
  decide +kernel

/-- The hypotheses of DrawTrackingFollowsItsTests: an accepted answer that is no cause, whose request is
the stored one, and one that is, on a link GOOD, weak and LOST; the third low draw, and the exit and
lowering tests of section 3.9, the last at a cap that stands at the minimum grant. -/
theorem witness_DrawTrackingFollowsItsTests :
    let frame := (answer 15 0x02 0 3000 1290 100).map (·.byte)
    let s := polling (asking (holding 15 (session .delivering)) 15 .a 1 3000) 15
    let t := s.putEntry 15 { AllotEntry.reset with target := 1500, grant := 1500, runCount := 2 }
    let u := s.putEntry 15 { AllotEntry.reset with target := 1150, grant := 1150, tracking := some 1150 }
    let low := s.putEntry 15 { AllotEntry.reset with target := 60, grant := 60, tracking := some 60 }
    let lost := s.putLoopEntry 15 { LoopEntry.reset with health := 128, link := .lost, recovery := 7 }
    s.resetAsserted = false ∧ s.loop.exchange = some { pedestal := 15, left := 2 }
      ∧ answerFrame (answer 15 0x02 0 3000 1290 100) = some frame
      ∧ (reportOf frame 15 (s.entry 15).cfg.cap).map (fun r => (r.draw, r.request)) = some (1290, 3000)
      ∧ (s.loopEntry 15).request = 3000 ∧ (opened.loopEntry 15).request ≠ 3000
      ∧ (s.loopEntry 15).link ≠ .lost ∧ (lost.loopEntry 15).link = .lost
      ∧ ¬ (lost.loopEntry 15).recovery < 7 ∧ (LoopEntry.reset.recovery < 7)
      ∧ t.allot.parameters.trackingOn = true ∧ t.session 15 = some (session .delivering)
      ∧ (session .delivering).state = .delivering ∧ 1290 + t.allot.parameters.slack < (t.entry 15).grant
      ∧ (t.entry 15).tracking = none ∧ 2 ≤ (t.entry 15).runCount ∧ (s.entry 15).runCount < 2
      ∧ (u.entry 15).tracking = some 1150 ∧ (u.entry 15).grant ≤ 1140 + u.allot.parameters.slack / 2
      ∧ 1099 + u.allot.parameters.slack / 2 < (u.entry 15).grant
      ∧ 1099 + u.allot.parameters.slack < 1150 ∧ 1150 ≤ 1100 + u.allot.parameters.slack
      ∧ (low.entry 15).tracking = some 60 ∧ 9 + low.allot.parameters.slack < 60
      ∧ max (9 + low.allot.parameters.slack) low.allot.parameters.minGrant = 60 := by decide +kernel

/-- A SOFT pedestal 15 alone on its feeder, with a link state. -/
def softPark (link : LinkState) (health : Nat) : State :=
  let s := ceilings (asking (holding 15 (session .ready)) 15 .a 1 100) 6000 3500 3000
  let t := s.putEntry 15 { s.entry 15 with cfg := { (s.entry 15).cfg with rampMode := .soft } }
  t.putLoopEntry 15 { t.loopEntry 15 with link := link, health := health }

/-- The hypotheses of RecomputeFollowsItsStages, at the lone lister of a park, at section 2.11's, and at a
SOFT pedestal. -/
theorem witness_RecomputeFollowsItsStages :
    let s := asking (holding 15 (session .ready)) 15 .a 1 100
    (s.entry 15).cfg.present = true ∧ s.countsForPower 15 = true ∧ (s.loopEntry 15).link = .good
      ∧ (opened.entry 0).cfg.present = false
      ∧ 0 < (s.recompute.entry 15).demand ∧ (s.recompute.entry 15).admitted = false
      ∧ (∀ o, o ≠ 15 → ¬ 0 < (s.recompute.entry o).demand)
      ∧ (∀ o p, 0 < (park211.recompute.entry o).demand → 0 < (park211.recompute.entry p).demand →
        park211.sessionNumber o = park211.sessionNumber p → o = p)
      ∧ (park211.recompute.entry 0).admitted = true
      ∧ (park211.entry 0).grant < (park211.recompute.entry 0).target
      ∧ (park211.entry 0).cfg.rampMode = .hard
      ∧ ((softPark .good 0).recompute.entry 15).admitted = true
      ∧ ((softPark .good 0).entry 15).grant < ((softPark .good 0).recompute.entry 15).target
      ∧ ((softPark .good 0).entry 15).cfg.rampMode = .soft
      ∧ ((softPark .good 0).recompute.entry 15).grant < ((softPark .good 0).recompute.entry 15).target
      ∧ ((softPark .doubtful 64).loopEntry 15).link = .doubtful
      ∧ ((softPark .doubtful 64).recompute.entry 15).target ≤ ((softPark .doubtful 64).entry 15).grant
      ∧ ((softPark .lost 128).loopEntry 15).link = .lost := by decide +kernel

/-! ### Witnesses: measurement -/

/-- Feeder D with its sensor on, after start-up. -/
def sensed : State :=
  opened.putFeeder .d { FeederEntry.reset with cfg := { FeederConfig.default with sensorEnabled := true } }

/-- The hypotheses of TemperatureCodesDerate, at the ends of the range. -/
theorem witness_TemperatureCodesDerate :
    sensed.resetAsserted = false ∧ sensed.park.restored = true
      ∧ (sensed.feeder .d).cfg.sensorEnabled = true ∧ (opened.feeder .d).cfg.sensorEnabled = false
      ∧ ¬ (16 ≤ (15 : BitVec 12).toNat ∧ (15 : BitVec 12).toNat ≤ 4079)
      ∧ (16 ≤ (16 : BitVec 12).toNat ∧ (16 : BitVec 12).toNat ≤ 4079)
      ∧ (16 ≤ (4079 : BitVec 12).toNat ∧ (4079 : BitVec 12).toNat ≤ 4079)
      ∧ State.reset.resetAsserted = false ∧ State.reset.park.restored = false := by decide

/-- The hypotheses of SupplyFailsAndRestarts: the second low code, a low code in POWER_FAIL, the
twentieth good code with the store drained and with an erase in flight, and a session in each kind
of state. -/
theorem witness_SupplyFailsAndRestarts :
    let low := { holding 15 (session .ready) with meas := { opened.meas with belowRun := 1 } }
    let good := { parkIn .powerFail with meas := { opened.meas with aboveRun := 19 } }
    low.resetAsserted = false ∧ low.park.state ≠ .powerFail
      ∧ (if (2799 : BitVec 12).toNat < 2800 then min (low.meas.belowRun + 1) 255 else 0) = 2
      ∧ (if (2800 : BitVec 12).toNat < 2800 then min (low.meas.belowRun + 1) 255 else 0) ≠ 2
      ∧ low.session 15 = some (session .ready) ∧ low.session 0 = none
      ∧ (holding 15 fresh).session 15 = some fresh ∧ fresh.state = .authorising
      ∧ low.park.openCount = low.occupied
      ∧ (∀ e ∈ low.store.queue, e.closeSequence < low.account.nextClose)
      ∧ (pedestals.filterMap fun p => (low.session p).bind fun x =>
          if x.state = .authorising then none else some (p, x))[0]? = some (15, session .ready)
      ∧ good.resetAsserted = false ∧ good.park.state = .powerFail
      ∧ 20 ≤ min (good.meas.aboveRun + 1) 255
      ∧ good.store.firstClass = [] ∧ good.store.secondClass = [] ∧ good.store.flight = none
      ∧ (flying good (.erase 0) 4).store.flight ≠ none
      ∧ (flying good (.erase 0) 4).park.state = .powerFail := by decide

/-! ### Witnesses: the store -/

/-- A record write of record 9 in flight in slot 0, behind a record that has no slot. -/
def writing9 (slots : State → State) (eraseFirst retry : Bool) : State :=
  flying (slots (queueing [queuedAs 8 .presentable true none, queuedAs 9 .writing false (some 0)]))
    (.recordWrite 9 0 eraseFirst retry) 6

/-- The hypotheses of RecordWritesEnd: a FREE slot to retry in, a MARKED one, none, and a retry; the
record behind another of an earlier close sequence. -/
theorem witness_RecordWritesEnd :
    (let s := writing9 (fun t => slotsIn t .held .free) false false
     s.resetAsserted = false
       ∧ s.store.queue = [queuedAs 8 .presentable true none] ++ queuedAs 9 .writing false (some 0) :: []
       ∧ (∀ y ∈ [queuedAs 8 .presentable true none], y.closeSequence ≠ 9)
       ∧ s.store.flight = some { op := .recordWrite 9 0 false false, left := 6 }
       ∧ (47 : RecordSlot) ≠ 0 ∧ s.slotState 47 = .free
       ∧ (∀ k, k < 47 → k ≠ 0 → s.slotState k ≠ .free))
    ∧ (let s := writing9 (fun t => slotsIn t .held .marked) false false
       s.store.flight = some { op := .recordWrite 9 0 false false, left := 6 }
         ∧ (∀ k, k ≠ 0 → s.slotState k ≠ .free) ∧ s.slotState 47 = .marked
         ∧ (∀ k, k < 47 → k ≠ 0 → s.slotState k ≠ .marked))
    ∧ (let s := writing9 (fun t => slotsIn t .held .bad) true false
       s.resetAsserted = false
         ∧ s.store.flight = some { op := .recordWrite 9 0 true false, left := 6 }
         ∧ (∀ k, k ≠ 0 → s.slotState k ≠ .free ∧ s.slotState k ≠ .marked))
    ∧ (writing9 id false true).store.flight
      = some { op := .recordWrite 9 0 false true, left := 6 } := by decide +kernel

/-- The hypotheses of MarksAndErasesEnd: a settled mark, an erase of a slot that no record has claimed, and
one of a slot that a record has, with a FREE slot, a MARKED one and none to claim instead. -/
theorem witness_MarksAndErasesEnd :
    let q := queueing [queuedAs 9 .settling false (some 0)]
    let s := flying { q with pay := { q.pay with state := .working true } } (.settledMark 9 0) 1
    let e := flying opened (.erase 47) 4
    let c (all : SlotState) := erasing47 [queuedAs 8 .presentable true none,
      queuedAs 9 .writing false (some 47)] all
    s.resetAsserted = false ∧ s.store.queue = [] ++ queuedAs 9 .settling false (some 0) :: []
      ∧ s.pay.state = .working true ∧ s.store.flight = some { op := .settledMark 9 0, left := 1 }
      ∧ e.resetAsserted = false ∧ e.store.flight = some { op := .erase 47, left := 4 }
      ∧ (∀ y ∈ e.store.queue, y.state = .writing → y.slot ≠ some 47)
      ∧ (c .free).store.queue
        = [queuedAs 8 .presentable true none] ++ queuedAs 9 .writing false (some 47) :: []
      ∧ (queuedAs 9 .writing false (some 47)).state = .writing
      ∧ (∀ y ∈ [queuedAs 8 .presentable true none],
        y.closeSequence ≠ 9 ∧ (y.state = .writing → y.slot ≠ some 47))
      ∧ (c .free).store.flight = some { op := .erase 47, left := 4 }
      ∧ (c .free).slotState 0 = .free ∧ (0 : RecordSlot) ≠ 47
      ∧ (∀ k, k ≠ 47 → (c .marked).slotState k ≠ .free) ∧ (c .marked).slotState 0 = .marked
      ∧ (∀ k, k ≠ 47 → (c .bad).slotState k ≠ .free)
      ∧ (∀ k, k ≠ 47 → (c .bad).slotState k ≠ .marked) := by decide +kernel

/-- The hypotheses of ReservationsAndSavesEnd. -/
theorem witness_ReservationsAndSavesEnd :
    let r := flying opened (.reservation 129) 1
    let s := flying (sitePort (.working false)) (.save Settings.default) 40
    r.resetAsserted = false ∧ r.store.flight = some { op := .reservation 129, left := 1 }
      ∧ s.resetAsserted = false ∧ s.store.flight = some { op := .save Settings.default, left := 40 }
      ∧ s.site.state = .working false := by decide

/-! ### Witnesses: resets and start-up -/

/-- The hypotheses of ResetCutsAndRestarts: RESET_N low, and each kind of operation in flight. -/
theorem witness_ResetCutsAndRestarts :
    ({ opened with resetAsserted := true } : State).resetAsserted = true
      ∧ Instr.quiesce ≠ .hardwareResetEnd ∧ opened.resetAsserted = false ∧ opened.store.flight = none
      ∧ CutPoint.headerPart ≠ .untouched
      ∧ (writing9 id false false).store.flight
        = some { op := .recordWrite 9 0 false false, left := 6 }
      ∧ (writing9 id false false).queued 9 = some (queuedAs 9 .writing false (some 0))
      ∧ (flying opened (.recordWrite 9 0 false false) 6).queued 9 = none
      ∧ (flying opened (.settledMark 9 0) 1).store.flight = some { op := .settledMark 9 0, left := 1 }
      ∧ (flying opened (.erase 47) 4).store.flight = some { op := .erase 47, left := 4 }
      ∧ (flying opened (.reservation 65) 1).store.flight = some { op := .reservation 65, left := 1 }
      ∧ (flying opened (.save Settings.default) 40).store.flight
        = some { op := .save Settings.default, left := 40 } := by decide

/-- A slot with a valid header, a blank mark area and a body. -/
def heldCells (n close : Nat) (body : Body) : SlotCells :=
  { header := .valid n close, body := body, markBlank := true, singles := 0 }

/-- A scan in progress with pedestal 15 alone present. -/
def scanning : State :=
  let r := asking State.reset 15 .a 1 0
  { r with park := { r.park with startStep := some .scan } }

/-- The hypotheses of StartUpRestoresAndScans: the restore in progress, and the scan, which reads a whole
record, a damaged copy of it, another damaged record of an equal close sequence, a settled record, and a
blank slot. -/
theorem witness_StartUpRestoresAndScans :
    State.reset.resetAsserted = false ∧ State.reset.park.startStep = some .restore
      ∧ scanning.resetAsserted = false ∧ scanning.park.startStep = some .scan
      ∧ scanning.store.firstClass = [] ∧ scanning.store.secondClass = []
      ∧ scanning.store.flight = none
      ∧ (scanning.entry 15).cfg.present = true
      ∧ (∀ q, q < 15 → (scanning.entry q).cfg.present = false) := by decide +kernel

/-- A restore in progress with a held code of feeder D, and settings in which its sensor is on. -/
def heldCode (code : BitVec 12) : State := State.reset.storeCode .d code

def sensedSettings : Settings :=
  let sensed : FeederConfig := { FeederConfig.default with sensorEnabled := true, floor := 600 }
  { Settings.default with feeders := putCell Settings.default.feeders 3 sensed }

/-- The hypotheses of StartUpRestoresAndScans about held codes. -/
theorem witness_StartUpRestoresAndScans_held (code : BitVec 12) :
    (heldCode code).resetAsserted = false ∧ (heldCode code).park.startStep = some .restore
      ∧ cell (heldCode code).meas.latest (Feeder.idx .d) = some code
      ∧ cell (heldCode code).meas.latest (Feeder.idx .a) = none
      ∧ (cell sensedSettings.feeders (Feeder.idx .d)).sensorEnabled = true
      ∧ (cell Settings.default.feeders (Feeder.idx .d)).sensorEnabled = false :=
  ⟨rfl, rfl, rfl, rfl, rfl, rfl⟩

/-- R69, R72, R177: a held fault code is evaluated at the restore's end, under the restored settings. -/
theorem test_restore_evaluates_held_codes :
    (match exec (.restoreEnd
        { settings := some { contents := .good sensedSettings, singles := 0 }, counter := none })
        (heldCode 15) with
      | .next t => ((t.feeder .d).applied, (t.feeder .d).sensorFault, (t.feeder .a).applied,
          (cell t.site.notices 1).pending)
      | _ => (0, false, 0, false)) = (600, true, 1000, true) := by decide +kernel

/-- R24: the power-fail close takes the slots in pedestal order, and the records take close sequences in
that order. -/
theorem test_power_fail_in_order :
    let s := ((holding 15 (session .ready)).putSession 3 { session .parked with number := 6 })
    ((s.enterPowerFail).store.queue.map fun e => (e.session, e.closeSequence)) = [(6, 1), (5, 2)] := by
  decide +kernel

/-- Of the first slots, the whole record and the other damaged one are kept, and the close-sequence
counter is past both; the copy and the settled record are MARKED. -/
theorem test_scan_rebuilds :
    (match exec (.scanEnd [(0, heldCells 7 20 (.damaged image)), (1, heldCells 7 20 (.record (record 7))),
        (2, heldCells 8 20 (.damaged image)),
        (3, { heldCells 9 21 (.record (record 9)) with markBlank := false })]) scanning with
      | .next t => (t.store.queue.map fun e => (e.session, e.closeSequence, e.slot, e.corrupt),
          [0, 1, 2, 3, 4].map t.slotState, t.account.nextClose, t.store.secondClass)
      | _ => ([], [], 0, []))
      = ([(7, 20, some 1, false), (8, 20, some 2, true)], [.marked, .held, .held, .marked, .free], 21,
        [.erase 0, .erase 3]) := by decide +kernel

/-! ### One step of each kind, from the manual -/

/-- Section 6.8's session, one watt-hour before its threshold. -/
def almost : Session :=
  { session .delivering with
    billed := 22881, lastReading := 22981, flatFee := 100
    current := { segment with billed := 22881, raw := 1349979000 } }

/-- Section 6.8: the next watt-hour takes the committed amount to 1450 and the session to STOPPING with
reason HOLD. -/
theorem test_hold_reached :
    ((holding 15 almost).takeReading 15 22982 100).session 15
      = some { almost with
          lastReading := 22982, lastStamp := 100, billed := 22882, state := .stopping
          stopReason := some .hold, stopWindow := some 15000
          current := { segment with billed := 22882, raw := 1350038000 } } := by decide +kernel

/-- R29, R60: a draw that lowers a tracking cap at the minimum grant to the minimum grant is a cause of a
recompute, which sets the cut DOUBTFUL pedestal's effective demand again (R32). -/
theorem test_lowering_at_the_minimum :
    let s := polling (asking (holding 15 (session .delivering)) 15 .a 1 3000) 15
    let low := (s.putEntry 15 { s.entry 15 with
      demand := 60, target := 40, grant := 40, tracking := some 60 }).putLoopEntry 15
      { s.loopEntry 15 with health := 100, link := .doubtful }
    (match exec (.answerFrameReceived (answer 15 0x02 0 3000 9 100)) low with
      | .next t => ((t.entry 15).tracking, (t.entry 15).demand)
      | _ => (none, 0)) = (some 60, 40) := by decide +kernel

/-- R120, R125: of two rebuilt records of one close sequence SETTLE touches the head alone. -/
theorem test_settle_touches_the_head :
    let e := queuedAs 9 .presentable false (some 0)
    (match exec (.settle 9) (queueing [e, { e with session := 10, slot := some 47 }]) with
      | .next t => t.store.queue.map fun y => (y.session, y.state)
      | _ => []) = [(9, .settling), (10, .presentable)] := by decide +kernel

/-- R6: a PLUGGED answer at a FREE slot opens session 1. -/
theorem test_open_session :
    (match exec (.answerFrameReceived (answer 15 0x01 0 0 0 42)) openable with
      | .next t => (t.sessionNumber 15, t.account.authQueue, t.account.nextNumber, t.park.openCount,
          t.pay.atn)
      | _ => (0, [], 0, 0, false)) = (1, [15], 2, 1, true) := by decide +kernel

/-- R111, R126, R177: the first start-up of a blank array: both losses are noticed, one reservation is in
flight, and the park opens with nothing in its queue. -/
theorem test_first_start_up :
    (match exec (.restoreEnd { settings := none, counter := none }) State.reset with
      | .next t => match exec (.scanEnd []) t with
        | .next u => (u.park.state, u.store.flight, (cell u.site.notices 4).pending, u.account.nextNumber,
            u.account.nextClose)
        | _ => (.starting, none, false, 0, 0)
      | _ => (.starting, none, false, 0, 0))
      = (.open, some { op := .reservation 65, left := 1 }, true, 1, 1) := by decide +kernel

/-- No word of the opcode table spells a command, and withFetchWord leaves the state alone. -/
theorem test_no_table_words :
    decodeTableWord 0 0 = none ∧ State.withFetchWord State.reset 8 0x3C = State.reset := by decide +kernel

end Sys2Proof.Tests
end

section
/-! SUPPORT. The state right after a reset: what its tables read, and that every law holds there,
over every array, strap level and queue. -/

namespace Sys2Proof.Machine
open Sys2Proof

variable (a : NvArray) (addr : Bool) (q : List Instr)

@[simp] theorem State.slot_afterReset (p : Pedestal) :
    (State.afterReset a addr q).slot p = SessionSlot.reset := cell_replicate _ p

@[simp] theorem State.session_afterReset (p : Pedestal) :
    (State.afterReset a addr q).session p = none := by
  rw [State.session, State.slot_afterReset]
  rfl

@[simp] theorem State.entry_afterReset (p : Pedestal) :
    (State.afterReset a addr q).entry p = AllotEntry.reset := cell_replicate _ p

@[simp] theorem State.feeder_afterReset (f : Feeder) :
    (State.afterReset a addr q).feeder f = FeederEntry.reset := cell_replicate _ (Feeder.idx f)

@[simp] theorem State.loopEntry_afterReset (p : Pedestal) :
    (State.afterReset a addr q).loopEntry p = LoopEntry.reset := cell_replicate _ p

@[simp] theorem State.occupied_afterReset : (State.afterReset a addr q).occupied = 0 := by
  simp [State.occupied]

theorem afterReset_orderLaw : OrderLaw (State.afterReset a addr q) := fun p => by
  rw [State.entry_afterReset]
  exact ⟨le_rfl, le_rfl, le_rfl⟩

theorem afterReset_grantLaw : GrantLaw (State.afterReset a addr q) := fun p => by
  rw [State.entry_afterReset]
  exact ⟨nofun, le_rfl, le_rfl, nofun⟩

theorem afterReset_countingLaw : CountingLaw (State.afterReset a addr q) := fun p _ => by
  rw [State.entry_afterReset]
  exact ⟨rfl, rfl⟩

theorem afterReset_trackingLaw : TrackingLaw (State.afterReset a addr q) := by
  refine ⟨fun p => ?_, fun p x hx => ?_⟩
  · rw [State.entry_afterReset]
    exact ⟨by decide, nofun⟩
  · rw [State.session_afterReset] at hx
    cases hx

theorem afterReset_ceilingLaw : CeilingLaw (State.afterReset a addr q) := by
  refine ⟨fun f => ?_, ?_, fun p => ?_⟩
  · simp [State.feederTargets, AllotEntry.reset]
  · simp [State.siteTargets, AllotEntry.reset]
  · rw [State.entry_afterReset]
    exact le_rfl

theorem afterReset_meterLaw : MeterLaw (State.afterReset a addr q) := fun p x hx => by
  rw [State.session_afterReset] at hx
  cases hx

theorem afterReset_moneyLaw : MoneyLaw (State.afterReset a addr q) := fun p x hx => by
  rw [State.session_afterReset] at hx
  cases hx

theorem afterReset_tableLaw : TableLaw (State.afterReset a addr q) := by
  have hauth : (State.afterReset a addr q).account.authQueue = [] := rfl
  refine ⟨(State.occupied_afterReset a addr q).symm, ?_, ?_, ?_⟩
  all_goals simp [hauth]

@[simp] theorem State.queue_afterReset : (State.afterReset a addr q).store.queue = [] := rfl

theorem afterReset_queueLaw : QueueLaw (State.afterReset a addr q) := by
  simp [QueueLaw]

theorem afterReset_numberLaw : NumberLaw (State.afterReset a addr q) := by
  have hlimit : (State.afterReset a addr q).account.reservationLimit = 1 := rfl
  have hnone : (State.afterReset a addr q).store.reservations = [] := rfl
  have hauth : (State.afterReset a addr q).account.authQueue = [] := rfl
  refine ⟨?_, ?_, le_rfl, ?_, ?_, ?_, ?_, ?_, ?_, fun _ =>
    ⟨rfl, State.occupied_afterReset a addr q, rfl, hnone, rfl, rfl⟩⟩
  all_goals simp [hlimit, hnone, hauth]

theorem afterReset_roomLaw : RoomLaw (State.afterReset a addr q) := by
  refine ⟨fun _ => rfl, fun _ => State.occupied_afterReset a addr q, ?_⟩
  simp

theorem afterReset_linkLaw : LinkLaw (State.afterReset a addr q) := fun p => by
  rw [State.loopEntry_afterReset]
  exact ⟨by decide, rfl⟩

theorem attention_replicate_reset {n : Nat} : attention (Vector.replicate n Notice.reset) = false := by
  simp [attention, Notice.reset]

theorem afterReset_pinLaw : PinLaw (State.afterReset a addr q) := by
  have hpay (i : Fin 5) : cell (State.afterReset a addr q).pay.notices i = Notice.reset :=
    cell_replicate _ i
  have hsite (i : Fin 7) : cell (State.afterReset a addr q).site.notices i = Notice.reset :=
    cell_replicate _ i
  have hsensor : (State.afterReset a addr q).allot.sensorFault = false := by
    have : (State.afterReset a addr q).allot.feeders = Vector.replicate 4 FeederEntry.reset := rfl
    simp [Allotment.sensorFault, this, FeederEntry.reset]
  refine ⟨rfl, ?_⟩
  rw [if_neg (show ¬ (State.afterReset a addr q).resetAsserted = true from nofun)]
  refine ⟨⟨?_, ?_, ?_, ?_⟩, rfl, attention_replicate_reset.symm, attention_replicate_reset.symm⟩
  · rw [hpay]; rfl
  · rw [hpay]; rfl
  · rw [hpay]; rfl
  · rw [hsite, hsensor]; rfl

end Sys2Proof.Machine
end

section
/-! SUPPORT. What a reset leaves (tier 1), and the step law of the session numbers, which fails. -/

namespace Sys2Proof.Machine
open Sys2Proof

/-- Settles O3: each table reads its reset entry, and every other field is the one written. -/
theorem resetLeavesResetValues : Obligations.ResetLeavesResetValues := by
  intro a addr q
  refine ⟨State.slot_afterReset a addr q, rfl, fun p => ?_, fun f => ?_,
    State.loopEntry_afterReset a addr q, rfl, rfl, rfl, rfl, rfl, fun f => cell_replicate _ _, rfl,
    rfl, rfl, rfl, rfl, rfl, rfl, rfl, rfl, rfl, rfl, rfl, rfl, fun c => cell_replicate _ c, rfl, rfl,
    rfl, fun c => cell_replicate _ c, rfl, rfl, rfl, rfl, rfl, rfl, rfl, rfl⟩
  · rw [State.entry_afterReset]
    exact ⟨rfl, rfl, rfl, rfl, rfl, rfl, rfl, rfl⟩
  · rw [State.feeder_afterReset]
    exact ⟨rfl, rfl, rfl, rfl, rfl, rfl⟩

/-- Settles O17: each law holds after every reset, so after that of a blank array. -/
theorem lawsHoldAtReset : Obligations.LawsHoldAtReset :=
  ⟨afterReset_orderLaw _ _ _, afterReset_grantLaw _ _ _, afterReset_countingLaw _ _ _,
    afterReset_trackingLaw _ _ _, afterReset_ceilingLaw _ _ _, afterReset_meterLaw _ _ _,
    afterReset_moneyLaw _ _ _, afterReset_tableLaw _ _ _, afterReset_queueLaw _ _ _,
    afterReset_numberLaw _ _ _, afterReset_roomLaw _ _ _, afterReset_linkLaw _ _ _,
    afterReset_pinLaw _ _ _⟩

/-- An open park whose second class holds a reservation write of limit 0, which no run puts there but
NumberLaw does not exclude: it speaks of the first class and of the operation in flight. -/
def reservationBehind : State :=
  let s := State.afterReset NvArray.blank false [.readWindowOpens]
  { s with
    park := { s.park with state := .open, startStep := none }
    store := { s.store with secondClass := [.reservation 0] } }

theorem reservationBehind_tableLaw : TableLaw reservationBehind :=
  afterReset_tableLaw NvArray.blank false [.readWindowOpens]

theorem reservationBehind_numberLaw : NumberLaw reservationBehind := by
  obtain ⟨h1, h2, h3, h4, h5, h6, h7, h8, h9, -⟩ :=
    afterReset_numberLaw NvArray.blank false [.readWindowOpens]
  exact ⟨h1, h2, h3, h4, h5, h6, h7, h8, h9, nofun⟩

/-- R112: the end of the event starts the write of limit 0, below the limit that stands. -/
theorem reservationBehind_step :
    ∃ t, step reservationBehind = .next t ∧ t.store.reservations = [0]
      ∧ t.account.reservationLimit = 1 :=
  ⟨_, rfl, rfl, rfl⟩

/-- Refutes O13: with no first-class work, the write of limit 0 that waits in the second class goes into
flight, and NumberLaw then asks that the limit 1 be at most 0. -/
theorem not_stepKeepsQueueLaw : ¬ Obligations.StepKeepsQueueLaw := by
  rintro ⟨-, hnumber⟩
  obtain ⟨t, hstep, hwrite, hlimit⟩ := reservationBehind_step
  obtain ⟨-, -, -, -, -, -, -, -, hlimits, -⟩ :=
    hnumber reservationBehind t reservationBehind_tableLaw reservationBehind_numberLaw nofun hstep
  have hle := (hlimits 0 (by simp [hwrite])).1
  rw [hlimit] at hle
  exact absurd hle (by decide)

end Sys2Proof.Machine
end

section
/-! SUPPORT. The matching of R10, and what AUTHORISE, DECLINE and CANCEL do with each of its
findings. -/

namespace Sys2Proof.Machine
open Sys2Proof

/-! ### The matching of R10 -/

theorem pedestalOf_of_val {b : Byte} {p : Pedestal} (h : b.toNat = p.val) :
    pedestalOf b = some p := by
  simp [pedestalOf, h]

theorem pedestalOf_of_ge {b : Byte} (h : 16 ≤ b.toNat) : pedestalOf b = none := by
  simp [pedestalOf, h]

theorem State.sessionNumber_of_session {s : State} {p : Pedestal} {x : Session}
    (h : s.session p = some x) : s.sessionNumber p = x.number := by
  simp [State.sessionNumber, h]

/-- R10: a named pair that is the slot's session. -/
theorem State.matchSlot_current {s : State} {b : Byte} {n : Word32} {p : Pedestal} {x : Session}
    (hb : b.toNat = p.val) (hx : s.session p = some x) (hn : x.number = n.toNat)
    (h0 : n.toNat ≠ 0) : s.matchSlot b n = .current p x := by
  simp only [State.matchSlot, pedestalOf_of_val hb, State.sessionNumber_of_session hx, hx]
  rw [if_neg h0, if_pos hn]

/-- R10: the outcome that refuses a pair which is not the slot's session. -/
def SlotMatch.refusal : SlotMatch → Option OutcomeCode
  | .range => some .range
  | .late => some .late
  | .noSession => some .noSession
  | .current _ _ => none

theorem State.matchSlot_refusal_range {s : State} {b : Byte} {n : Word32}
    (h : 16 ≤ b.toNat ∨ n.toNat = 0) : (s.matchSlot b n).refusal = some .range := by
  rw [State.matchSlot]
  split
  · rfl
  · next p hp =>
    have h0 : n.toNat = 0 := h.resolve_left fun hb => by simp [pedestalOf_of_ge hb] at hp
    rw [if_pos h0]
    rfl

theorem State.matchSlot_refusal_unmatched {s : State} {b : Byte} {n : Word32} {p : Pedestal}
    (hb : b.toNat = p.val) (h0 : n.toNat ≠ 0) (hn : s.sessionNumber p ≠ n.toNat) :
    (s.matchSlot b n).refusal
      = some (if (s.slot p).lastEnded = n.toNat then .late else .noSession) := by
  simp only [State.matchSlot, pedestalOf_of_val hb]
  rw [if_neg h0, if_neg hn]
  split <;> rfl

/-! ### The three requests on a refused pair -/

theorem State.treatDecline_refused {s : State} {b : Byte} {n : Word32} {o : OutcomeCode}
    (h : (s.matchSlot b n).refusal = some o) : s.treatDecline b n = s.answer o (echoPair b n) := by
  rw [State.treatDecline]
  cases hm : s.matchSlot b n <;> rw [hm] at h <;> cases h <;> rfl

theorem State.treatCancel_refused {s : State} {b : Byte} {n : Word32} {o : OutcomeCode}
    (h : (s.matchSlot b n).refusal = some o) : s.treatCancel b n = s.answer o (echoPair b n) := by
  rw [State.treatCancel]
  cases hm : s.matchSlot b n <;> rw [hm] at h <;> cases h <;> rfl

theorem State.treatAuthorise_refused {s : State} {b : Byte} {n hold ref : Word32}
    {o : OutcomeCode} (h1 : 1 ≤ hold.toNat) (h2 : hold.toNat ≤ 9999999)
    (h : (s.matchSlot b n).refusal = some o) :
    s.treatAuthorise b n hold ref = s.answer o (echoPair b n) := by
  have hhold : ¬ (decide (hold.toNat = 0) || decide (Config.holdLimit < hold.toNat)) = true := by
    simp [Config.holdLimit]; omega
  rw [State.treatAuthorise, if_neg hhold]
  cases hm : s.matchSlot b n <;> rw [hm] at h <;> cases h <;> rfl

/-! ### The requests on a matching session -/

theorem State.treatAuthorise_badHold {s : State} {b : Byte} {n hold ref : Word32}
    (h : hold.toNat = 0 ∨ 9999999 < hold.toNat) :
    s.treatAuthorise b n hold ref = s.answer .range (echoPair b n) := by
  rw [State.treatAuthorise, if_pos (by simpa using h)]

theorem State.treatAuthorise_current {s : State} {b : Byte} {n hold ref : Word32} {p : Pedestal}
    {x : Session} (h1 : 1 ≤ hold.toNat) (h2 : hold.toNat ≤ 9999999)
    (h : s.matchSlot b n = .current p x) :
    s.treatAuthorise b n hold ref = if x.state = .authorising then
        (s.authoriseSession p x hold.toNat ref).answer .done (echoPair b n)
      else s.answer .wrongState (echoPair b n) := by
  have hhold : ¬ (decide (hold.toNat = 0) || decide (Config.holdLimit < hold.toNat)) = true := by
    simp [Config.holdLimit]; omega
  rw [State.treatAuthorise, if_neg hhold, h]

theorem State.treatDecline_current {s : State} {b : Byte} {n : Word32} {p : Pedestal} {x : Session}
    (h : s.matchSlot b n = .current p x) :
    s.treatDecline b n = if x.state = .authorising then (s.void p true).answer .done (echoPair b n)
      else s.answer .wrongState (echoPair b n) := by
  rw [State.treatDecline, h]

/-- R20: what CANCEL makes of a matching session, by its state. -/
theorem State.treatCancel_current {s : State} {b : Byte} {n : Word32} {p : Pedestal} {x : Session}
    (h : s.matchSlot b n = .current p x) :
    s.treatCancel b n = match x.state with
      | .authorising => (s.void p true).answer .done (echoPair b n ++ [0x00])
      | .ready => (s.close p .cancelled true).answer .done (echoPair b n ++ [0x01])
      | .delivering => (s.enterStopping p .cancelled).answer .done (echoPair b n ++ [0x02])
      | .stopping | .parked => s.answer .alreadyEnding (echoPair b n) := by
  simp only [State.treatCancel, h]
  cases x.state <;> rfl

/-! ### The replies -/

/-- R151, R152: the reply made after a treatment that began with the read window's end, from the state
that the treatment would have left had no window been open. -/
theorem State.payReply_windowEnded {s t : State} {kind : Byte} {o : OutcomeCode} {body : List Byte}
    (hs : t.pay.state = s.pay.state) :
    t.windowEnded.payReply kind s.pay.state.ready { outcome := o, body := body }
      = t.payReplied kind o body := by
  rw [← hs]
  rfl

@[simp] theorem State.countsForPower_payReplied (s : State) (kind : Byte) (o : OutcomeCode)
    (body : List Byte) (p : Pedestal) :
    (s.payReplied kind o body).countsForPower p = s.countsForPower p := rfl

/-- A served payment request that is answered, read from the state in which it arrived. -/
theorem State.payRequest_replied {s t : State} {r : PayRequest} {o : OutcomeCode}
    {body : List Byte} (h : s.payServes = true)
    (ht : r.treat s.windowEnded = t.windowEnded.answer o body) (hs : t.pay.state = s.pay.state) :
    s.payRequest r = (recomputeAfter s (t.payReplied r.kind o body)).finish := by
  rw [State.payRequest_answered h ht, State.payReply_windowEnded hs]

end Sys2Proof.Machine
end

section
/-! SUPPORT. The payment requests that name a session (O28 to O30). -/

namespace Sys2Proof.Machine
open Sys2Proof

/-- Settles O28: the matching of R10 refuses the pair, and each request answers with that outcome. -/
theorem unmatchedPairsAreRefused : Obligations.UnmatchedPairsAreRefused := by
  intro s b n hold ref o hserve hpair
  have href : (s.windowEnded.matchSlot b n).refusal = some o := by
    obtain ⟨rfl, hrange⟩ | ⟨p, hb, h0, hn, rfl⟩ := hpair
    · exact State.matchSlot_refusal_range hrange
    · exact State.matchSlot_refusal_unmatched (s := s.windowEnded) hb h0 hn
  refine ⟨fun h1 h2 => ?_, ?_, ?_⟩
  · exact congrArg _ (State.payRequest_refused (r := .authorise b n hold ref) hserve
      (State.treatAuthorise_refused h1 h2 href))
  · exact congrArg _ (State.payRequest_refused (r := .decline b n) hserve
      (State.treatDecline_refused href))
  · exact congrArg _ (State.payRequest_refused (r := .cancel b n) hserve
      (State.treatCancel_refused href))

/-- Settles O29: the hold is tested first, then the match, then the state; a session that becomes READY
begins to count for power, which is a cause of the recompute. -/
theorem authoriseMakesReady : Obligations.AuthoriseMakesReady := by
  intro s b n hold ref hserve
  refine ⟨fun hhold => ?_, fun p x hb hx hn h0 h1 h2 => ?_⟩
  · exact congrArg _ (State.payRequest_refused (r := .authorise b n hold ref) hserve
      (State.treatAuthorise_badHold hhold))
  have htreat := State.treatAuthorise_current (ref := ref) h1 h2
    (State.matchSlot_current (s := s.windowEnded) hb hx hn h0)
  refine ⟨fun hstate => ?_, fun hstate => ?_⟩
  · rw [if_neg hstate] at htreat
    exact congrArg _ (State.payRequest_refused (r := .authorise b n hold ref) hserve htreat)
  · rw [if_pos hstate] at htreat
    have hreplied := State.payRequest_replied (r := .authorise b n hold ref)
      (t := s.authoriseSession p x hold.toNat ref) hserve htreat rfl
    rw [recomputeAfter_of_counts p] at hreplied
    · simp only [State.authoriseSession, Session.authorise, decide_eq_true_eq] at hreplied
      exact congrArg _ hreplied
    · have hready : (s.authoriseSession p x hold.toNat ref).session p = some (x.authorise hold.toNat
          ref s.clockNow (decide ((s.loopEntry p).link = .lost))) :=
        State.session_putSession_self s p _
      rw [State.countsForPower_payReplied, State.countsForPower_of_session hx, hstate,
        State.countsForPower_of_session hready]
      exact nofun

/-- Settles O30: each row of the two tables is the treatment of the matching session; a close or a stop
of a session that counted for power is a cause of the recompute, and a void is none. -/
theorem declineAndCancelFollowTheirTables : Obligations.DeclineAndCancelFollowTheirTables := by
  intro s b n p x hserve hb hx hn h0
  have hmatch := State.matchSlot_current (s := s.windowEnded) hb hx hn h0
  have hdecline := State.treatDecline_current hmatch
  have hcancel := State.treatCancel_current hmatch
  refine ⟨fun hstate => ?_, fun hstate => ?_, fun hstate => ?_, fun hstate => ?_, fun hstate => ?_⟩
  · rw [if_neg hstate] at hdecline
    exact congrArg _ (State.payRequest_refused (r := .decline b n) hserve hdecline)
  · rw [if_pos hstate, State.windowEnded_void] at hdecline
    simp only [hstate, State.windowEnded_void] at hcancel
    have hpay : (s.void p true).pay.state = s.pay.state := by rw [State.void_pay]
    have hauth : ∀ y, s.session p = some y → y.state = .authorising := by
      rintro y hy
      rw [hx] at hy
      cases hy
      exact hstate
    have hquiet (kind : Byte) (body : List Byte) :
        recomputeAfter s ((s.void p true).payReplied kind .done body)
          = (s.void p true).payReplied kind .done body :=
      recomputeAfter_void hauth rfl (State.void_allot s p true)
        (congrArg (·.entries) (State.void_loop s p true))
    have hd := State.payRequest_replied (r := .decline b n) hserve hdecline hpay
    have hc := State.payRequest_replied (r := .cancel b n) hserve hcancel hpay
    rw [hquiet] at hd hc
    simp only [State.void, hx] at hd hc
    exact ⟨congrArg _ hd, congrArg _ hc⟩
  · simp only [hstate, State.windowEnded_close] at hcancel
    have hc := State.payRequest_replied (r := .cancel b n) hserve hcancel
      (by rw [State.close_pay])
    rw [recomputeAfter_of_counts p] at hc
    · exact congrArg _ hc
    · rw [State.countsForPower_payReplied, State.close_countsForPower hx, if_pos rfl,
        State.countsForPower_of_session hx, hstate]
      exact nofun
  · simp only [hstate, State.windowEnded_enterStopping] at hcancel
    have hstop : s.enterStopping p .cancelled
        = (s.putSession p (x.toStopping .cancelled)).endTracking p := by
      simp only [State.enterStopping, hx]
      exact if_neg nofun
    rw [hstop] at hcancel
    have hc := State.payRequest_replied (r := .cancel b n) hserve hcancel rfl
    rw [recomputeAfter_of_counts p] at hc
    · exact congrArg _ hc
    · rw [State.countsForPower_payReplied, State.countsForPower_endTracking,
        State.countsForPower_putSession, if_pos rfl, State.countsForPower_of_session hx, hstate]
      exact nofun
  · have htreat : s.windowEnded.treatCancel b n = s.windowEnded.answer .alreadyEnding (echoPair b n) := by
      obtain hstate | hstate := hstate <;> simp only [hcancel, hstate]
    exact congrArg _ (State.payRequest_refused (r := .cancel b n) hserve htreat)

end Sys2Proof.Machine
end

section
/-! SUPPORT. The settlement queue: what the joining of a record and a close leave of it (R22, R114,
R116), and the count of open sessions (R23). -/

namespace Sys2Proof.Machine
open Sys2Proof

/-! ### What names a queued record -/

/-- What no claim, write or mark changes of a queued record. -/
def QueueEntry.identity (e : QueueEntry) : Nat × Nat × RecordBody × Bool :=
  (e.session, e.closeSequence, e.body, e.corrupt)

/-- R22, R114: a record as it joins the queue. -/
def joiningEntry (r : SettlementRecord) : QueueEntry :=
  { session := r.session, closeSequence := r.closeSequence, body := .built r, state := .writing,
    notDurable := false, corrupt := false, slot := none, eraseFirst := false }

theorem State.joinQueue_queue (s : State) (r : SettlementRecord) :
    (s.joinQueue r).store.queue = s.store.queue ++ [joiningEntry r] := rfl

@[simp] theorem State.takeSlot_queue (s : State) (c : SlotClaim) :
    (s.takeSlot c).store.queue = s.store.queue := by
  unfold State.takeSlot; split <;> rfl

@[simp] theorem State.takeSlot_array (s : State) (c : SlotClaim) :
    (s.takeSlot c).store.array = s.store.array := by
  unfold State.takeSlot; split <;> rfl

/-- R116: a joining record is changed where it claims a slot or ends NOT_DURABLE, in nothing that names
it; no other record is touched. -/
theorem State.enqueueRecord_queue (s : State) (r : SettlementRecord) :
    ∃ f : QueueEntry → QueueEntry, (∀ e, (f e).identity = e.identity) ∧
      (s.enqueueRecord r).store.queue = updateNamed r.closeSequence f (s.store.queue ++ [joiningEntry r]) := by
  rw [State.enqueueRecord_eq, State.claimFor]
  cases (s.joinQueue r).chooseSlot with
  | none =>
    exact ⟨fun e =>
      { e with state := .presentable, notDurable := true, slot := none, eraseFirst := false },
      fun _ => rfl, rfl⟩
  | some c =>
    refine ⟨fun e => { e with slot := some c.slot, eraseFirst := c.eraseFirst }, fun _ => rfl, ?_⟩
    show updateNamed _ _ ((s.joinQueue r).takeSlot c).store.queue = _
    rw [State.takeSlot_queue, State.joinQueue_queue]

theorem State.enqueueRecord_identities (s : State) (r : SettlementRecord) :
    (s.enqueueRecord r).store.queue.map QueueEntry.identity
      = s.store.queue.map QueueEntry.identity ++ [(joiningEntry r).identity] := by
  obtain ⟨f, hf, hq⟩ := s.enqueueRecord_queue r
  rw [hq, updateNamed_map _ _ _ hf, List.map_append]
  rfl

/-- R22: behind records of lower close sequences a joining record leaves them as they are. -/
theorem State.enqueueRecord_append {s : State} {r : SettlementRecord}
    (h : ∀ e ∈ s.store.queue, e.closeSequence < r.closeSequence) :
    ∃ e, (s.enqueueRecord r).store.queue = s.store.queue ++ [e] ∧ e.identity = (joiningEntry r).identity := by
  obtain ⟨f, hf, hq⟩ := s.enqueueRecord_queue r
  exact ⟨f (joiningEntry r), hq.trans (updateNamed_split f (fun y hy => (h y hy).ne) rfl), hf _⟩

@[simp] theorem State.enqueueRecord_array (s : State) (r : SettlementRecord) :
    (s.enqueueRecord r).store.array = s.store.array := by
  rw [State.enqueueRecord_eq, State.claimFor]
  cases (s.joinQueue r).chooseSlot with
  | none => rfl
  | some c =>
    show ((s.joinQueue r).takeSlot c).store.array = _
    rw [State.takeSlot_array]
    rfl

/-- R22, R116: a record joins the queue whatever the close-sequence counter says. -/
theorem State.countClose_enqueueRecord (s : State) (r : SettlementRecord) :
    s.countClose.enqueueRecord r = (s.enqueueRecord r).countClose := by
  have htake (t : State) (c : SlotClaim) : t.countClose.takeSlot c = (t.takeSlot c).countClose := by
    have hslot : t.countClose.slotState c.slot = t.slotState c.slot := rfl
    unfold State.takeSlot
    rw [hslot]
    split <;> rfl
  have hchoose : (s.countClose.joinQueue r).chooseSlot = (s.joinQueue r).chooseSlot := rfl
  simp only [State.enqueueRecord_eq, State.claimFor, hchoose]
  cases (s.joinQueue r).chooseSlot with
  | none => rfl
  | some c =>
    have hjoin : s.countClose.joinQueue r = (s.joinQueue r).countClose := rfl
    simp only [hjoin, htake]
    rfl

/-! ### The count of open sessions (R23) -/

@[simp] theorem State.reportCount_openCount (s : State) :
    s.reportCount.park.openCount = s.occupied := by
  unfold State.reportCount; dsimp only; split <;> rfl

theorem State.occupied_eq_zero_iff {s : State} :
    s.occupied = 0 ↔ ∀ p, s.session p = none := by
  simp [State.occupied, List.filter_eq_nil_iff]

/-- R180: the count reported in DRAINING with no session open moves the park to QUIESCED. -/
theorem State.reportCount_quiesces {s : State} (hpark : s.park.state = .draining)
    (hfree : ∀ p, s.session p = none) :
    s.reportCount =
      ({ s with park := { s.park with openCount := 0, state := .quiesced } } : State).raiseSite
        .parkState := by
  have hzero : s.occupied = 0 := State.occupied_eq_zero_iff.mpr hfree
  simp only [State.reportCount, hpark, hzero]
  rfl

theorem State.reportCount_stays {s : State}
    (h : s.park.state ≠ .draining ∨ ∃ p, (s.session p).isSome = true) :
    s.reportCount = { s with park := { s.park with openCount := s.occupied } } := by
  simp only [State.reportCount]
  refine if_neg fun hquiesce => ?_
  simp only [Bool.and_eq_true, decide_eq_true_eq] at hquiesce
  obtain ⟨hpark, hzero⟩ := hquiesce
  obtain hpark' | ⟨p, hp⟩ := h
  · exact hpark' hpark
  · simp [State.occupied_eq_zero_iff.mp hzero p] at hp

/-! ### Closes -/

/-- R22: a close with the record's joining first. -/
theorem State.close_eq_enqueue {s : State} {p : Pedestal} {x : Session} (hx : s.session p = some x)
    (reason : CloseReason) (refused : Bool) :
    s.close p reason refused =
      ((s.enqueueRecord (x.record p s.account.nextClose reason s.clockNow)).countClose.freeSlot p
        refused x.number).reportCount := by
  rw [State.close_eq hx, State.countClose_enqueueRecord]

theorem State.close_store {s : State} {p : Pedestal} {x : Session} (hx : s.session p = some x)
    (reason : CloseReason) (refused : Bool) :
    (s.close p reason refused).store
      = (s.enqueueRecord (x.record p s.account.nextClose reason s.clockNow)).store := by
  rw [State.close_eq_enqueue hx, State.reportCount_store]
  rfl

theorem State.close_slot {s : State} {p : Pedestal} {x : Session} (hx : s.session p = some x)
    (reason : CloseReason) (refused : Bool) (q : Pedestal) :
    (s.close p reason refused).slot q = if q = p then
      { s.slot p with session := none, refused := refused, lastEnded := x.number } else s.slot q := by
  rw [State.slot_congr (State.close_slots hx reason refused) q, State.slot_putSlot]

/-- R22: of the Account Unit a close changes its slot and the close-sequence counter. -/
theorem State.close_account {s : State} {p : Pedestal} {x : Session} (hx : s.session p = some x)
    (reason : CloseReason) (refused : Bool) :
    (s.close p reason refused).account = { s.account with
      slots := (s.close p reason refused).account.slots, nextClose := s.account.nextClose + 1 } := by
  rw [State.close_eq_enqueue hx, State.reportCount_account]
  simp only [State.freeSlot, State.endTracking_account, State.putSlot, State.countClose,
    State.enqueueRecord_account]

theorem State.close_openCount {s : State} {p : Pedestal} {x : Session} (hx : s.session p = some x)
    (reason : CloseReason) (refused : Bool) :
    (s.close p reason refused).park.openCount = (s.close p reason refused).occupied := by
  rw [State.close_eq_enqueue hx, State.reportCount_openCount, State.occupied_reportCount]

theorem State.close_pay_eq {s : State} {p : Pedestal} {x : Session} (hx : s.session p = some x)
    (reason : CloseReason) (refused : Bool) :
    (s.close p reason refused).pay
      = (s.enqueueRecord (x.record p s.account.nextClose reason s.clockNow)).pay := by
  rw [State.close_eq_enqueue hx, State.reportCount_pay]
  rfl

theorem AllotEntry.endTracking_tracking (e : AllotEntry) : e.endTracking.tracking = none := by
  rw [AllotEntry.endTracking]
  split
  · rfl
  · assumption

/-- R61: the end of tracking, as a test of the tracking cap. -/
theorem AllotEntry.endTracking_eq_ite (e : AllotEntry) :
    e.endTracking = if e.tracking = none then e else { e with tracking := none, runCount := 0 } := by
  rw [AllotEntry.endTracking]
  split <;> next h => rw [h]; rfl

@[simp] theorem AllotEntry.endTracking_grant (e : AllotEntry) : e.endTracking.grant = e.grant := by
  rw [AllotEntry.endTracking]; split <;> rfl

@[simp] theorem AllotEntry.endTracking_target (e : AllotEntry) : e.endTracking.target = e.target := by
  rw [AllotEntry.endTracking]; split <;> rfl

end Sys2Proof.Machine
end

section
/-! SUPPORT. A close and the record it builds (O31). -/

namespace Sys2Proof.Machine
open Sys2Proof

/-- Settles O31: the record joins the queue under the counter's value, so behind the lower ones, and its
slot is freed. -/
theorem closeBuildsTheRecord : Obligations.CloseBuildsTheRecord := by
  intro s p x reason refused hx
  have haccount := State.close_account hx reason refused
  have hids := congrArg (fun st : Store => st.queue.map QueueEntry.identity)
    (State.close_store hx reason refused)
  simp only [State.enqueueRecord_identities] at hids
  refine ⟨?_, fun q hq => ?_, ?_, ?_, ?_, ?_, ?_, State.close_openCount hx reason refused, ?_, ?_,
    fun q hq => ?_, ?_, State.close_time .., State.close_loop .., State.close_meas .., ?_,
    State.close_store hx reason refused, State.close_pay_eq hx reason refused, ?_, fun hbelow => ?_⟩
  · rw [State.close_slot hx, if_pos rfl]
  · rw [State.close_slot hx, if_neg hq]
  · rw [haccount]
  · rw [haccount]
  · rw [haccount]
  · rw [haccount]
  · rw [haccount]
  · rw [State.close_entry hx, if_pos rfl, AllotEntry.endTracking_tracking]
  · rw [State.close_entry hx, if_pos rfl, AllotEntry.endTracking_grant]
  · rw [State.close_entry hx, if_neg hq]
  · rw [State.close_store hx, State.enqueueRecord_array]
  · simpa using congrArg List.length hids
  · have hlast := congrArg List.getLast? hids
    rw [List.getLast?_map, List.getLast?_append] at hlast
    obtain ⟨e, he, hid⟩ := Option.map_eq_some_iff.mp hlast
    have hid : e.session = x.number ∧ e.closeSequence = s.account.nextClose
        ∧ e.body = .built (x.record p s.account.nextClose reason s.clockNow) ∧ e.corrupt = false := by
      simpa [QueueEntry.identity, joiningEntry, Session.record] using hid
    obtain ⟨hsession, hclose, hbody, hcorrupt⟩ := hid
    exact ⟨e, he, hsession, hclose, hcorrupt, hbody⟩
  · obtain ⟨e, he, -⟩ := State.enqueueRecord_append
      (r := x.record p s.account.nextClose reason s.clockNow) hbelow
    exact ⟨e, (congrArg Store.queue (State.close_store hx reason refused)).trans he⟩

end Sys2Proof.Machine
end

section
/-! SUPPORT. The three windows of a session (O42 to O44), the table of the park states (O40), and the
passing of time (O2). -/

namespace Sys2Proof.Machine
open Sys2Proof

/-! ### The windows of a session -/

theorem State.sessionTimer_of_free {s : State} {p : Pedestal} (h : s.session p = none)
    (timer : Session → Option Nat) : s.sessionTimer p timer = none := by
  simp [State.sessionTimer, h]

theorem State.advance_session_of {s : State} {p : Pedestal} {x : Session}
    (h : s.session p = some x) (n : Nat) : (s.advance n).session p = some (x.advance n) := by
  rw [State.advance_session, h]
  rfl

theorem execAuthorisationWindowExpiry_eq {s : State} {p : Pedestal} {t : Option Nat}
    (h : s.sessionTimer p (·.authorisationWindow) = t) :
    exec (.authorisationWindowExpiry p) s = .next (s.expiry t fun u => u.void p true) := by
  rw [← h]
  rfl

theorem execStopWindowExpiry_eq {s : State} {p : Pedestal} {t : Option Nat}
    (h : s.sessionTimer p (·.stopWindow) = t) :
    exec (.stopWindowExpiry p) s = .next (s.expiry t fun u => u.stopIgnored p) := by
  rw [← h]
  rfl

theorem execLinkLossTimerExpiry_eq {s : State} {p : Pedestal} {t : Option Nat}
    (h : s.sessionTimer p (·.linkLossTimer) = t) :
    exec (.linkLossTimerExpiry p) s = .next (s.expiry t fun u => u.close p .linkLost true) := by
  rw [← h]
  rfl

/-- Settles O42: at its due moment the window's session is voided; a session in AUTHORISING counts for no
power, so nothing is recomputed. -/
theorem authorisationWindowVoids : Obligations.AuthorisationWindowVoids := by
  intro s p hrun
  refine ⟨fun hfree => ?_, fun x hx => ⟨fun hstopped => ?_, fun left hwindow hstate => ?_⟩⟩
  · rw [execAuthorisationWindowExpiry_eq (State.sessionTimer_of_free hfree _), State.expiry_none]
  · rw [execAuthorisationWindowExpiry_eq ((State.sessionTimer_eq hx _).trans hstopped),
      State.expiry_none]
  · have hx' := State.advance_session_of hx left
    have hauth : ∀ y, (s.advance left).session p = some y → y.state = .authorising := by
      intro y hy
      rw [hx'] at hy
      cases hy
      exact hstate
    have hquiet : recomputeAfter s ((s.advance left).void p true) = (s.advance left).void p true :=
      recomputeAfter_advance left
        (fun q => by rw [State.void_countsForPower _ _ _ _ hauth, State.advance_countsForPower])
        (fun q => by rw [State.entry_void, State.advance_entry])
        (by rw [State.void_loop]) (fun f => by rw [State.feeder_void, State.advance_feeder])
    rw [execAuthorisationWindowExpiry_eq ((State.sessionTimer_eq hx _).trans hwindow),
      State.expiry_some hrun, hquiet, State.void, hx', State.advance_slot]
    have hnumber : (x.advance left).number = x.number := rfl
    simp only [hnumber, State.putSlot_account_authQueue, State.advance_account_authQueue]

/-- Settles O43: at its due moment the window parks its session; STOPPING and PARKED count for no power,
and no tracking ends. -/
theorem stopWindowParks : Obligations.StopWindowParks := by
  intro s p x hrun hx
  refine ⟨fun hstopped => ?_, fun left hwindow hstate htrack => ?_⟩
  · rw [execStopWindowExpiry_eq ((State.sessionTimer_eq hx _).trans hstopped), State.expiry_none]
  · let parked : Session :=
      { x.advance left with
        state := .parked, parkedBy := some .stop, stopWindow := none, stopIgnored := true }
    have huntracked : ((s.advance left).entry p).endTracking = (s.advance left).entry p := by
      rw [AllotEntry.endTracking_eq_ite, State.advance_entry, if_pos htrack]
    have hparks : (s.advance left).stopIgnored p = (s.advance left).putSession p parked := by
      rw [State.stopIgnored, State.advance_session_of hx left]
      simp only [State.enterParked, State.session_putSession_self, State.putSession_putSession,
        State.endTracking, State.entry_putSession, huntracked, Session.toParked]
      have hsame := State.putEntry_entry ((s.advance left).putSession p parked) p
      rwa [State.entry_putSession] at hsame
    have hquiet : recomputeAfter s ((s.advance left).putSession p parked)
        = (s.advance left).putSession p parked := by
      refine recomputeAfter_advance left (fun q => ?_) (fun q => ?_) (by rw [State.putSession_loop])
        (fun f => by rw [State.feeder_putSession, State.advance_feeder])
      · rw [State.countsForPower_putSession, State.advance_countsForPower]
        split
        · next hq =>
          rw [hq, State.countsForPower_of_session hx, hstate]
          rfl
        · rfl
      · rw [State.entry_putSession, State.advance_entry]
    rw [execStopWindowExpiry_eq ((State.sessionTimer_eq hx _).trans hwindow),
      State.expiry_some hrun, hparks, hquiet]

/-- Settles O44: at its due moment the timer closes its session; the close of one in READY or DELIVERING
is a cause of the recompute, that of another state is none. -/
theorem linkLossTimerCloses : Obligations.LinkLossTimerCloses := by
  intro s p x hrun hx
  refine ⟨fun hstopped => ?_, fun left htimer => ?_⟩
  · rw [execLinkLossTimerExpiry_eq ((State.sessionTimer_eq hx _).trans hstopped),
      State.expiry_none]
  have hx' := State.advance_session_of hx left
  have hcounts (q : Pedestal) : ((s.advance left).close p .linkLost true).countsForPower q
      = if q = p then false else s.countsForPower q := by
    rw [State.close_countsForPower hx', State.advance_countsForPower]
  have hexec : exec (.linkLossTimerExpiry p) s
      = .next (recomputeAfter s ((s.advance left).close p .linkLost true)).finish := by
    rw [execLinkLossTimerExpiry_eq ((State.sessionTimer_eq hx _).trans htimer),
      State.expiry_some hrun]
  refine ⟨fun hstate => ?_, fun hstate htrack => ?_⟩
  · rw [hexec, recomputeAfter_of_counts p]
    rw [hcounts, if_pos rfl, State.countsForPower_of_session hx]
    obtain hstate | hstate := hstate <;> rw [hstate] <;> exact nofun
  · rw [hexec, recomputeAfter_advance left (fun q => ?_) (fun q => ?_) (by rw [State.close_loop])
      (fun f => by rw [State.close_feeder hx', State.advance_feeder])]
    · rw [hcounts]
      split
      · next hq =>
        rw [hq, State.countsForPower_of_session hx]
        obtain hstate | hstate := hstate <;> rw [hstate] <;> rfl
      · rfl
    · rw [State.close_entry hx', State.advance_entry, State.advance_entry]
      split
      · next hq => rw [hq, AllotEntry.endTracking_tracking, htrack]
      · rfl

/-! ### The park states -/

theorem State.siteServes_of_takes {s : State} (h : s.siteTakes = true)
    (hpark : ParkState.serves s.park.state = true) : s.siteServes = true := by
  rw [State.siteServes, h, hpark]
  rfl

/-- R170: QUIESCE answered after its effect at Park Control. -/
theorem State.quiesce_replied {s t : State} {body : List Byte} (h : s.siteServes = true)
    (ht : s.quiescePark = t) (hstate : t.site.state = s.site.state)
    (hbody : t.parkBody = body) :
    exec .quiesce s = .next (t.siteReplied 0x29 .done body).finish := by
  have htreat : s.treatQuiesce = t.answer .done body := by rw [State.treatQuiesce, ht, hbody]
  refine congrArg _ ((State.siteRequest_answered (r := .quiesce) h htreat).trans ?_)
  rw [← hstate]
  rfl

/-- R170: RESUME answered after its effect at Park Control. -/
theorem State.resume_replied {s t : State} {body : List Byte} (h : s.siteServes = true)
    (ht : s.resumePark = t) (hstate : t.site.state = s.site.state)
    (hbody : t.parkBody = body) :
    exec .resume s = .next (t.siteReplied 0x2A .done body).finish := by
  have htreat : s.treatResume = t.answer .done body := by rw [State.treatResume, ht, hbody]
  refine congrArg _ ((State.siteRequest_answered (r := .resume) h htreat).trans ?_)
  rw [← hstate]
  rfl

/-- Settles O40: each state's row of R180 is a case of the two operations at Park Control and of the
reported count. -/
theorem quiesceAndResumeFollowTheirTable : Obligations.QuiesceAndResumeFollowTheirTable := by
  refine ⟨fun s htakes => ⟨fun hpark => ?_, fun hpark => ?_, fun hpark => ?_⟩, fun s => ⟨?_, ?_⟩⟩
  · have hserve := State.siteServes_of_takes htakes (by rw [hpark]; rfl)
    refine ⟨fun hopen => ?_, fun hnone => ?_, ?_⟩
    · refine State.quiesce_replied hserve ?_ rfl rfl
      simp only [State.quiescePark, hpark, if_neg hopen.ne']
      rfl
    · refine State.quiesce_replied hserve ?_ rfl rfl
      simp only [State.quiescePark, hpark, if_pos hnone]
      rfl
    · refine State.resume_replied hserve ?_ rfl (by rw [State.parkBody, hpark]; rfl)
      simp only [State.resumePark, hpark]
  · have hserve := State.siteServes_of_takes htakes (by rw [hpark]; rfl)
    refine ⟨State.quiesce_replied hserve ?_ rfl (by rw [State.parkBody, hpark]; rfl),
      State.resume_replied hserve ?_ rfl rfl⟩
    · simp only [State.quiescePark, hpark]
    · simp only [State.resumePark, hpark]
      rfl
  · have hserve := State.siteServes_of_takes htakes (by rw [hpark]; rfl)
    refine ⟨State.quiesce_replied hserve ?_ rfl (by rw [State.parkBody, hpark]; rfl),
      State.resume_replied hserve ?_ rfl rfl⟩
    · simp only [State.quiescePark, hpark]
    · simp only [State.resumePark, hpark]
      rfl
  · exact fun hpark hfree => State.reportCount_quiesces hpark hfree
  · exact fun hstays => State.reportCount_stays hstays

end Sys2Proof.Machine
end

section
/-! SUPPORT. The idle step (O2): which timers a millisecond makes due, and that each raises its event
once. -/

namespace Sys2Proof.Machine
open Sys2Proof

/-! ### Due timers -/

theorem mem_dueEvent {t : Option Nat} {c i : Instr} : c ∈ dueEvent t i ↔ c = i ∧ t = some 0 := by
  unfold dueEvent isDue
  by_cases h : t = some 0 <;> simp [h]

theorem nodup_dueEvent (t : Option Nat) (i : Instr) : (dueEvent t i).Nodup := by
  unfold dueEvent
  split
  · exact List.nodup_singleton i
  · exact List.nodup_nil

theorem nodup_append_dueEvent {l : List Instr} {i : Instr} (hl : l.Nodup) (hi : i ∉ l)
    (t : Option Nat) : (l ++ dueEvent t i).Nodup := by
  refine List.nodup_append.mpr ⟨hl, nodup_dueEvent t i, fun c hc d hd heq => hi ?_⟩
  rwa [← (mem_dueEvent.mp hd).1, ← heq]

theorem runDown_eq_zero_iff {n : Nat} {t : Option Nat} :
    runDown n t = some 0 ↔ ∃ k, t = some k ∧ k ≤ n := by
  simp [runDown, Nat.sub_eq_zero_iff_le]

theorem State.exchange_due_iff {n : Nat} {s : State} :
    (s.advance n).loop.exchange.map (·.left) = some 0
      ↔ ∃ x, s.loop.exchange = some x ∧ x.left ≤ n := by
  show (s.loop.exchange.map fun x => { x with left := x.left - n }).map (·.left) = some 0 ↔ _
  simp [Nat.sub_eq_zero_iff_le]

theorem State.sessionTimer_due_iff {n : Nat} {s : State} {p : Pedestal}
    {timer : Session → Option Nat} (h : ∀ x, timer (x.advance n) = runDown n (timer x)) :
    (s.advance n).sessionTimer p timer = some 0
      ↔ ∃ x k, s.session p = some x ∧ k ≤ n ∧ timer x = some k := by
  unfold State.sessionTimer
  rw [State.advance_session]
  cases s.session p with
  | none => simp
  | some x => simp [h, runDown_eq_zero_iff, and_comm]

theorem State.rampTimer_due_iff {n : Nat} {s : State} {p : Pedestal} :
    ((s.advance n).entry p).rampTimer = some 0
      ↔ ∃ k, (s.entry p).rampTimer = some k ∧ k ≤ n := by
  rw [State.advance_entry]
  exact runDown_eq_zero_iff

/-- R105, R185: the next overstay minute ends where the overstay time reaches its end, below the limit at
which that time stops. -/
theorem State.minute_due_iff {n : Nat} {s : State} {p : Pedestal} :
    (s.advance n).minuteLeft p = some 0 ↔ ∃ x, s.session p = some x ∧ x.state = .parked
      ∧ (x.minutesEnded + 1) * 60000 ≤ min (x.overstayTime + n) 4294967295 := by
  unfold State.minuteLeft
  rw [State.advance_session]
  cases s.session p with
  | none => simp
  | some x =>
    by_cases hparked : x.state = .parked
    · simp [Session.advance, hparked, Config.overstayMinute, Config.overstayLimit]
      omega
    · simp [Session.advance, hparked]

/-! ### The events that are due -/

/-- The pedestal of a timer's expiry. -/
def expiryAt : Instr → Option Pedestal
  | .authorisationWindowExpiry p | .stopWindowExpiry p | .linkLossTimerExpiry p
  | .rampTimerExpiry p | .overstayMinuteEnd p => some p
  | _ => none

theorem State.mem_dueAt {s : State} {p : Pedestal} {c : Instr} :
    c ∈ s.dueAt p ↔
      c = .authorisationWindowExpiry p ∧ s.sessionTimer p (·.authorisationWindow) = some 0
      ∨ c = .stopWindowExpiry p ∧ s.sessionTimer p (·.stopWindow) = some 0
      ∨ c = .linkLossTimerExpiry p ∧ s.sessionTimer p (·.linkLossTimer) = some 0
      ∨ c = .rampTimerExpiry p ∧ (s.entry p).rampTimer = some 0
      ∨ c = .overstayMinuteEnd p ∧ s.minuteLeft p = some 0 := by
  simp only [State.dueAt, List.mem_append, mem_dueEvent, or_assoc]

theorem State.expiryAt_of_mem_dueAt {s : State} {p : Pedestal} {c : Instr} (h : c ∈ s.dueAt p) :
    expiryAt c = some p := by
  obtain ⟨rfl, -⟩ | ⟨rfl, -⟩ | ⟨rfl, -⟩ | ⟨rfl, -⟩ | ⟨rfl, -⟩ := State.mem_dueAt.mp h <;> rfl

theorem State.nodup_dueAt (s : State) (p : Pedestal) : (s.dueAt p).Nodup := by
  unfold State.dueAt
  refine nodup_append_dueEvent (nodup_append_dueEvent (nodup_append_dueEvent
    (nodup_append_dueEvent (nodup_dueEvent _ _) ?_ _) ?_ _) ?_ _) ?_ _
  all_goals simp [mem_dueEvent]

theorem State.mem_dueEvents {s : State} {c : Instr} :
    c ∈ s.dueEvents ↔ c = .answerWindowClose ∧ s.loop.exchange.map (·.left) = some 0
      ∨ c = .roundStart ∧ s.loop.nextRound = some 0 ∨ ∃ p, c ∈ s.dueAt p := by
  simp [State.dueEvents, mem_dueEvent]

theorem State.nodup_dueEvents (s : State) : s.dueEvents.Nodup := by
  have hpedestals : (pedestals.flatMap s.dueAt).Nodup := by
    rw [List.nodup_flatMap]
    refine ⟨fun p _ => s.nodup_dueAt p, nodup_pedestals.imp fun hne => ?_⟩
    intro c hp hq
    exact hne (Option.some.inj
      ((State.expiryAt_of_mem_dueAt hp).symm.trans (State.expiryAt_of_mem_dueAt hq)))
  have hnone (c : Instr) (hc : expiryAt c = none) : c ∉ pedestals.flatMap s.dueAt := by
    intro h
    obtain ⟨p, -, hp⟩ := List.mem_flatMap.mp h
    rw [State.expiryAt_of_mem_dueAt hp] at hc
    cases hc
  rw [State.dueEvents, List.nodup_append]
  refine ⟨nodup_append_dueEvent (nodup_dueEvent _ _) (by simp [mem_dueEvent]) _, hpedestals, ?_⟩
  · rintro c hc d hd rfl
    rw [List.mem_append, mem_dueEvent, mem_dueEvent] at hc
    obtain ⟨rfl, -⟩ | ⟨rfl, -⟩ := hc <;> exact hnone _ rfl hd

/-- Settles O2: each timer's due moment is that of the time left to it, and every event names its
timer. -/
theorem idleStepCountsAMillisecond : Obligations.IdleStepCountsAMillisecond := by
  refine ⟨fun s n => ⟨rfl, fun p => ?_, fun p => ?_, rfl⟩, fun s hidle => ?_⟩
  · rw [State.advance_slot]
    rfl
  · rw [State.advance_entry]
    rfl
  have hstep : step s = .next s.tick := by rw [step, hidle]
  refine ⟨fun hreset => ?_, fun hrun => ⟨(s.advance 1).dueEvents, ?_, State.nodup_dueEvents _,
    fun c => ?_⟩⟩
  · rw [hstep, State.tick, if_pos hreset]
  · rw [hstep, State.tick, if_neg (by rw [hrun]; exact nofun), hidle]
    rfl
  · rw [State.mem_dueEvents, State.exchange_due_iff]
    refine or_congr Iff.rfl (or_congr (and_congr Iff.rfl runDown_eq_zero_iff)
      (exists_congr fun p => ?_))
    rw [State.mem_dueAt, State.sessionTimer_due_iff fun _ => rfl,
      State.sessionTimer_due_iff fun _ => rfl, State.sessionTimer_due_iff fun _ => rfl,
      State.rampTimer_due_iff, State.minute_due_iff]
    constructor
    · rintro (⟨hc, x, k, hx, hk, ht⟩ | ⟨hc, x, k, hx, hk, ht⟩ | ⟨hc, x, k, hx, hk, ht⟩ | h | h)
      · exact .inl ⟨x, k, hx, hk, .inl ⟨hc, ht⟩⟩
      · exact .inl ⟨x, k, hx, hk, .inr (.inl ⟨hc, ht⟩)⟩
      · exact .inl ⟨x, k, hx, hk, .inr (.inr ⟨hc, ht⟩)⟩
      · exact .inr (.inl h)
      · exact .inr (.inr h)
    · rintro (⟨x, k, hx, hk, ⟨hc, ht⟩ | ⟨hc, ht⟩ | ⟨hc, ht⟩⟩ | h | h)
      · exact .inl ⟨hc, x, k, hx, hk, ht⟩
      · exact .inr (.inl ⟨hc, x, k, hx, hk, ht⟩)
      · exact .inr (.inr (.inl ⟨hc, x, k, hx, hk, ht⟩))
      · exact .inr (.inr (.inr (.inl h)))
      · exact .inr (.inr (.inr (.inr h)))

end Sys2Proof.Machine
end

section
/-! SUPPORT. What a step can do, said once: the moves of which every event is made, the single recompute
of R29 that may end it, and what may follow that. Each law of the model is then a case analysis over the
moves. -/

namespace Sys2Proof.Machine
open Sys2Proof

/-! ### The moves -/

/-- How the record of an open session changes without a transition of its own name: a reading, a link
change, a late stop cause, a revival below the threshold, an overstay minute, a bind, an expired stop
window. -/
inductive SessionMove (x : Session) : Session → Prop
  | read (reading : Nat) (stamp : Word32) : x.state = .authorising →
      SessionMove x { x with lastReading := reading, lastStamp := stamp }
  | bill (peak reading : Nat) (stamp : Word32) : x.state ≠ .authorising →
      SessionMove x (x.billReading peak reading stamp)
  | lateStop (reason : StopReason) : x.state = .parked → SessionMove x (x.lateStop reason)
  | revive : x.state = .parked →
      SessionMove x { x with state := if 0 < x.billed then .delivering else .ready }
  | link (l : LinkState) : SessionMove x (x.linkChanged l)
  | minute : x.state = .parked → SessionMove x x.endMinute
  | bind (row : RowIndex) (t : Tariff) (now : ClockStamp) : SessionMove x (x.bind row t now)
  | ignoreStop : x.stopWindow.isSome = true → SessionMove x { x with stopIgnored := true }

/-- A move that changes the session table or the allotment table. -/
inductive TableMove : State → State → Prop
  | advance (s : State) (n : Nat) : TableMove s (s.advance n)
  | session (s : State) (p : Pedestal) (x y : Session) : s.session p = some x → SessionMove x y →
      TableMove s (s.putSession p y)
  | flags (s : State) (p : Pedestal) (refused unavailable : Bool) : s.session p = none →
      TableMove s (s.putSlot p { s.slot p with refused := refused, unavailable := unavailable })
  | opens (s : State) (p : Pedestal) (reading : Nat) (stamp : Word32) : s.session p = none →
      s.canOpen p = true → TableMove s (s.openSession p reading stamp)
  | voids (s : State) (p : Pedestal) (refused : Bool) (x : Session) : s.session p = some x →
      x.state = .authorising ∨ x.authorisationWindow.isSome = true → TableMove s (s.void p refused)
  | closes (s : State) (p : Pedestal) (reason : CloseReason) (refused : Bool) (x : Session) :
      s.session p = some x → x.state ≠ .authorising ∨ x.linkLossTimer.isSome = true →
      TableMove s (s.close p reason refused)
  | authorises (s : State) (p : Pedestal) (x : Session) (hold : Nat) (ref : Word32) :
      s.session p = some x → x.state = .authorising → TableMove s (s.authoriseSession p x hold ref)
  | stops (s : State) (p : Pedestal) (reason : StopReason) (x : Session) : s.session p = some x →
      x.state ≠ .authorising → TableMove s (s.enterStopping p reason)
  | parks (s : State) (p : Pedestal) (by_ : ParkedBy) (x : Session) : s.session p = some x →
      x.state ≠ .authorising ∨ x.stopWindow.isSome = true → TableMove s (s.enterParked p by_)
  | resetsPeak (s : State) (p : Pedestal) : TableMove s (s.putEntry p (s.entry p).resetPeak)
  | tracks (s : State) (p : Pedestal) (draw : Nat) : TableMove s (s.trackDraw p draw)
  | ramps (s : State) (p : Pedestal) :
      TableMove s (s.putEntry p (AllotEntry.rampStep s.allot.parameters (s.entry p)))

/-- One move of an event, none of which recomputes or configures the allotment. -/
inductive Move : State → State → Prop
  | table {s t : State} : TableMove s t → Move s t
  | time (s : State) (t : TimeBase) : Move s { s with time := t }
  | pay (s : State) (x : PayPort) : Move s { s with pay := x }
  | site (s : State) (x : SitePort) : Move s { s with site := x }
  | meas (s : State) (m : Measurement) : Move s { s with meas := m }
  | factor (s : State) (f : Feeder) (code : BitVec 12) :
      Move s (s.putFeeder f ((s.feeder f).evaluate code))
  | misses (s : State) (p : Pedestal) : Move s (s.putLoopEntry p (s.loopEntry p).miss)
  | answers (s : State) (p : Pedestal) : Move s (s.putLoopEntry p (s.loopEntry p).good)
  | stores (s : State) (p : Pedestal) (r : Report) (stamp : Word32) :
      Move s (s.putLoopEntry p { s.loopEntry p with latest := some r, latestStamp := some stamp })
  | round (s : State) (n : Word32) (left : Nat) :
      Move s { s with loop := { s.loop with round := n, nextRound := some left } }
  | exchange (s : State) (n : Nat) : Move s (s.beginExchange n)
  | row (s : State) (rows : Vector TariffRow 8) :
      Move s { s with account := { s.account with rows := rows } }
  | binding (s : State) (bindings : Vector RowIndex 16) :
      Move s { s with account := { s.account with bindings := bindings } }
  | park (s : State) (x : ParkState) : s.park.state ≠ .starting → x ≠ .starting →
      Move s (s.enterPark x)
  | halts (s : State) : Move s { s.enterPark .powerFail with
      park := { (s.enterPark .powerFail).park with startStep := none } }
  | reserves (s : State) : Move s s.testReservation
  | settles (s : State) (e : QueueEntry) (rest : List QueueEntry) : s.store.queue = e :: rest →
      e.state = .presentable → Move s (s.settleHead e)
  | releases (s : State) (e : QueueEntry) (rest : List QueueEntry) : s.store.queue = e :: rest →
      e.notDurable = true → Move s (s.dequeue e.closeSequence)
  | saves (s : State) : Move s (s.joinSecond (.save s.settings))
  | endsWrite (s : State) (n : Nat) (i : RecordSlot) (eraseFirst retry : Bool) (left : Nat)
      (v : WriteVerify) :
      s.store.flight = some { op := .recordWrite n i eraseFirst retry, left := left } →
      Move s (s.endWrite n i retry v)
  | endsMark (s : State) (n : Nat) (i : RecordSlot) (left : Nat) (v : Verify Bool) :
      s.store.flight = some { op := .settledMark n i, left := left } → Move s (s.endMark n i v)
  | endsErase (s : State) (i : RecordSlot) (left : Nat) (v : Verify SlotCells) :
      s.store.flight = some { op := .erase i, left := left } → Move s (s.endErase i v)
  | endsReservation (s : State) (l left : Nat) (v : Verify (Area Nat)) :
      s.store.flight = some { op := .reservation l, left := left } →
      Move s (s.endReservation l v)
  | endsSave (s : State) (c : Settings) (left : Nat) (v : Verify (Area Settings)) :
      s.store.flight = some { op := .save c, left := left } → Move s (s.endSave c v)
  | scans (s : State) (aged : List (RecordSlot × SlotCells)) : s.park.startStep = some .scan →
      Move s (s.endScan aged)

/-- A run of moves. -/
abbrev Moves : State → State → Prop := Relation.ReflTransGen Move

theorem Moves.refl (s : State) : Moves s s := Relation.ReflTransGen.refl

theorem Move.moves {s t : State} (h : Move s t) : Moves s t := .single h

theorem TableMove.moves {s t : State} (h : TableMove s t) : Moves s t := .single (.table h)

/-- The restored machine before the recompute that ends the restore (R177). -/
def State.restored (s : State) (r : RestoreReading) : State :=
  let aged := s.ageAreas r
  let counted := aged.countCorrected
    (aged.store.array.settings.singles + aged.store.array.counter.singles)
  let loaded := counted.restoreSettings.restoreCounter
  let begun : State := { loaded with park := { loaded.park with
    startStep := some .scan, restored := true } }
  [Feeder.a, .b, .c, .d].foldl State.evaluateHeld begun

theorem State.endRestore_eq (s : State) (r : RestoreReading) :
    s.endRestore r = (s.restored r).recompute := rfl

/-- A change of the configuration, which a recompute always follows (R28, R129). -/
inductive Configured (s : State) : State → Prop
  | siteCeiling (c : Nat) : Configured s { s with allot := { s.allot with siteCeiling := c } }
  | feeder (f : Feeder) (c : FeederConfig) :
      Configured s (s.writeFeeder f ((s.feeder f).configure c))
  | pedestal (p : Pedestal) (c : PedestalConfig) : s.session p = none →
      Configured s (s.configurePedestal p c)
  | parameters (q : Parameters) (startQuiesced : Bool) :
      Configured s (s.configureParameters q startQuiesced)
  | restored (r : RestoreReading) : s.park.startStep = some .restore → Configured s (s.restored r)

/-- An event up to its recompute: moves with the recompute of R29 where they are a cause for one, moves
with a recompute of their own, or a change of the configuration with its recompute. -/
inductive Event (s : State) : State → Prop
  | plain (u : State) : Moves s u → Event s (recomputeAfter s u)
  | forced (u : State) : Moves s u → Event s u.recompute
  | configured (u : State) : Configured s u → Event s u.recompute

/-- What follows an event's recompute: nothing, the next exchange of the round (R133), or the Site
Port's reply (R165). -/
inductive After (v : State) : State → Prop
  | nothing : After v v
  | exchange (n : Nat) : After v (v.beginExchange n)
  | site (x : SitePort) : After v { v with site := x }

/-- What a command does to the state. -/
inductive Effect (s : State) : State → Prop
  | ignored : Effect s s
  | asserted (cut : CutPoint) : Effect s (s.assertReset cut)
  | restarted : Effect s s.restart
  | restartedHere : Effect s s.restart.finish
  | event (v w : State) : s.resetAsserted = false → Event s v → After v w → Effect s w.finish

/-! ### From an event's function to its effect -/

/-- Moves that are no cause of a recompute are an event. -/
theorem Event.of_moves {s u : State} (h : Moves s u) (hsame : recomputeAfter s u = u) :
    Event s u := by
  have hplain := Event.plain u h
  rwa [hsame] at hplain

theorem Event.refl (s : State) : Event s s :=
  .of_moves (.refl s) (recomputeAfter_of_same rfl rfl rfl)

theorem Effect.of_event {s : State} {f : State → State} (h : Moves s (f s)) :
    Effect s (s.event f) := by
  unfold State.event
  split
  · exact .ignored
  · next hrun => exact .event _ _ (by simpa using hrun) (.plain _ h) .nothing

theorem Effect.of_quiet {s : State} {f : State → State} {v : State} (h : Event s v)
    (hafter : After v (f s)) : Effect s (s.quiet f) := by
  unfold State.quiet
  split
  · exact .ignored
  · next hrun => exact .event _ _ (by simpa using hrun) h hafter

theorem Effect.of_expiry {s : State} {timer : Option Nat} {f : State → State}
    (h : ∀ left, timer = some left → Moves (s.advance left) (f (s.advance left))) :
    Effect s (s.expiry timer f) := by
  unfold State.expiry
  split
  · exact .ignored
  · next left => exact .of_event (.head (.table (.advance s left)) (h left rfl))

theorem Effect.of_endExchange {s : State} {p : Pedestal} {lowered : Bool} {f : State → State}
    (h : Moves s (f s)) : Effect s (s.endExchange p lowered f) := by
  unfold State.endExchange
  split
  · exact .ignored
  · next hrun =>
    have hrun : s.resetAsserted = false := by simpa using hrun
    cases lowered
    · exact .event _ _ hrun (.plain _ h) (.exchange _)
    · exact .event _ _ hrun (.forced _ h) (.exchange _)

end Sys2Proof.Machine
end

section
/-! SUPPORT. The moves of each part of an event: the link and the three steps of a report (R3, R137), the
treatment of a payment request, and the event of a site request. -/

namespace Sys2Proof.Machine
open Sys2Proof

/-! ### Notices -/

theorem State.raiseSite_moves (s : State) (c : SiteCause) : Moves s (s.raiseSite c) :=
  Move.moves (.site s { s.site with notices := setPending s.site.notices c.idx true })

/-! ### The link (R137, R139) -/

theorem State.countLink_moves {s : State} {p : Pedestal} {e : LoopEntry}
    (h : Move s (s.putLoopEntry p e)) : Moves s (s.countLink p e) := by
  unfold State.countLink
  dsimp only
  split
  · exact h.moves
  · have hraised : Moves s ((s.putLoopEntry p e).raiseSite .linkChange) :=
      h.moves.trans (State.raiseSite_moves _ _)
    split
    · next x hx =>
      exact hraised.tail (.table (.session _ p x _ (by simpa using hx) (.link e.link)))
    · exact hraised

theorem State.miss_moves (s : State) (p : Pedestal) : Moves s (s.miss p) :=
  State.countLink_moves (.misses s p)

theorem State.storeReport_moves (s : State) (p : Pedestal) (r : Report) :
    Moves s (s.storeReport p r) :=
  (State.countLink_moves (.answers s p)).tail (.stores _ p r s.time.ms)

/-! ### The three steps of a report (R3) -/

theorem SessionState.ne_authorising_of_counts {x : SessionState}
    (h : SessionState.counts x = true) : x ≠ .authorising := by
  rintro rfl
  cases h

theorem State.billSession_moves {s : State} {p : Pedestal} {x : Session} (hx : s.session p = some x)
    (hstate : x.state ≠ .authorising) (reading : Nat) (stamp : Word32) :
    Moves s (s.billSession p x reading stamp) := by
  let y := x.billReading (s.entry p).peak reading stamp
  have hbilled : Moves s (s.putSession p y) :=
    TableMove.moves (.session s p x _ hx (.bill _ reading stamp hstate))
  have hraised : Moves s (if x.disputed (s.entry p).peak reading stamp then
      (s.putSession p y).raiseSite .meterDispute else s.putSession p y) := by
    split
    · exact hbilled.trans (State.raiseSite_moves _ _)
    · exact hbilled
  unfold State.billSession
  dsimp only
  split
  · next hstop =>
    rw [Bool.and_eq_true] at hstop
    refine hraised.tail (.table (.stops _ p .hold y ?_
      (SessionState.ne_authorising_of_counts hstop.1)))
    split <;> simp
  · exact hraised

theorem State.takeReading_moves (s : State) (p : Pedestal) (reading : Nat) (stamp : Word32) :
    Moves s (s.takeReading p reading stamp) := by
  unfold State.takeReading
  dsimp only
  refine Relation.ReflTransGen.tail ?_ (.table (.resetsPeak _ p))
  split
  · exact Moves.refl s
  · next x hx =>
    split
    · next hstate => exact TableMove.moves (.session s p x _ hx (.read reading stamp hstate))
    · next hstate => exact State.billSession_moves hx hstate reading stamp

theorem State.reportFree_moves {s : State} {p : Pedestal} (hfree : s.session p = none) (r : Report)
    (stamp : Word32) : Moves s (s.reportFree p r stamp) := by
  unfold State.reportFree
  split
  · exact TableMove.moves (.flags s p false false hfree)
  · split
    · exact .refl s
    · split
      · next hopen => exact TableMove.moves (.opens s p _ stamp hfree hopen)
      · have hflags : Moves s (s.putSlot p { s.slot p with unavailable := true }) :=
          TableMove.moves (.flags s p (s.slot p).refused true hfree)
        unfold State.refuseOpening
        dsimp only
        split
        · exact hflags
        · exact hflags.tail (.reserves _)
  · exact .refl s

theorem State.reportCharging_moves {s : State} {p : Pedestal} {x : Session}
    (hx : s.session p = some x) (hstate : x.state ≠ .authorising) (r : Report) :
    Moves s (s.reportCharging p r) := by
  unfold State.reportCharging
  split
  · exact TableMove.moves (.closes s p _ _ x hx (.inl hstate))
  · split
    · exact TableMove.moves (.stops s p _ x hx hstate)
    · split
      · exact TableMove.moves (.parks s p _ x hx (.inl hstate))
      · exact .refl s

theorem State.reportStopping_moves {s : State} {p : Pedestal} {x : Session}
    (hx : s.session p = some x) (hstate : x.state ≠ .authorising) (r : Report) :
    Moves s (s.reportStopping p x r) := by
  unfold State.reportStopping
  split
  · exact TableMove.moves (.closes s p _ _ x hx (.inl hstate))
  · exact .refl s
  · split
    · exact TableMove.moves (.parks s p _ x hx (.inl hstate))
    · exact .refl s

theorem State.revive_moves {s : State} {p : Pedestal} {x : Session} (hx : s.session p = some x)
    (hstate : x.state = .parked) : Moves s (s.revive p x) := by
  unfold State.revive
  split
  · exact TableMove.moves (.stops s p _ x hx (by rw [hstate]; exact nofun))
  · exact TableMove.moves (.session s p x _ hx (.revive hstate))

theorem State.reportParked_moves {s : State} {p : Pedestal} {x : Session}
    (hx : s.session p = some x) (hstate : x.state = .parked) (r : Report) :
    Moves s (s.reportParked p x r) := by
  unfold State.reportParked
  split
  · exact TableMove.moves (.closes s p _ _ x hx (.inl (by rw [hstate]; exact nofun)))
  · split
    · split
      · exact TableMove.moves (.session s p x _ hx (.lateStop _ hstate))
      · split
        · exact State.revive_moves hx hstate
        · exact .refl s
    · exact .refl s

theorem State.applyReport_moves (s : State) (p : Pedestal) (r : Report) (stamp : Word32) :
    Moves s (s.applyReport p r stamp) := by
  unfold State.applyReport
  split
  · next hfree => exact State.reportFree_moves hfree r stamp
  · next x hx =>
    split
    · next hstate =>
      split
      · exact TableMove.moves (.voids s p _ x hx (.inl hstate))
      · exact .refl s
    · next hstate => exact State.reportCharging_moves hx (by rw [hstate]; exact nofun) r
    · next hstate => exact State.reportCharging_moves hx (by rw [hstate]; exact nofun) r
    · next hstate => exact State.reportStopping_moves hx (by rw [hstate]; exact nofun) r
    · next hstate => exact State.reportParked_moves hx hstate r

theorem State.treatReport_moves (s : State) (p : Pedestal) (r : Report) (stamp : Word32) :
    Moves s (s.treatReport p r stamp) :=
  ((s.takeReading_moves p r.reading stamp).trans (State.applyReport_moves _ p r stamp)).tail
    (.table (.tracks _ p r.draw))

theorem State.takeAnswer_moves (s : State) (p : Pedestal) (frame : List Byte) :
    Moves s (s.takeAnswer p frame) := by
  unfold State.takeAnswer
  split
  · next r _ => exact (s.storeReport_moves p r).trans (State.treatReport_moves _ p r s.time.ms)
  · exact s.miss_moves p

/-! ### Payment requests -/

theorem State.matchSlot_eq_current {s : State} {b : Byte} {n : Word32} {p : Pedestal} {x : Session}
    (h : s.matchSlot b n = .current p x) : s.session p = some x := by
  unfold State.matchSlot at h
  repeat' split at h
  all_goals cases h
  assumption

theorem State.treatAuthorise_moves (b : Byte) (n hold ref : Word32) (s : State) :
    Moves s (s.treatAuthorise b n hold ref).state := by
  unfold State.treatAuthorise
  dsimp only
  split
  · exact .refl s
  · split
    · exact .refl s
    · exact .refl s
    · exact .refl s
    · next p x hmatch =>
      split
      · next hstate =>
        exact TableMove.moves (.authorises s p x _ ref (State.matchSlot_eq_current hmatch) hstate)
      · exact .refl s

theorem State.treatDecline_moves (b : Byte) (n : Word32) (s : State) :
    Moves s (s.treatDecline b n).state := by
  unfold State.treatDecline
  dsimp only
  split
  · exact .refl s
  · exact .refl s
  · exact .refl s
  · next p x hmatch =>
    split
    · next hstate =>
      exact TableMove.moves (.voids s p true x (State.matchSlot_eq_current hmatch) (.inl hstate))
    · exact .refl s

theorem State.treatCancel_moves (b : Byte) (n : Word32) (s : State) :
    Moves s (s.treatCancel b n).state := by
  unfold State.treatCancel
  dsimp only
  split
  · exact .refl s
  · exact .refl s
  · exact .refl s
  · next p x hmatch =>
    have hx := State.matchSlot_eq_current hmatch
    split
    · next hstate => exact TableMove.moves (.voids s p true x hx (.inl hstate))
    · next hstate =>
      exact TableMove.moves (.closes s p _ true x hx (.inl (by rw [hstate]; exact nofun)))
    · next hstate => exact TableMove.moves (.stops s p _ x hx (by rw [hstate]; exact nofun))
    · exact .refl s
    · exact .refl s

theorem State.treatSettle_moves (n : Word32) (s : State) : Moves s (s.treatSettle n).state := by
  unfold State.treatSettle
  dsimp only
  split
  · exact .refl s
  · next e rest hqueue =>
    split
    · split
      · next hready =>
        split
        · next hlost => exact Move.moves (.releases s e rest hqueue hlost)
        · exact Move.moves (.settles s e rest hqueue hready)
      · exact .refl s
      · exact .refl s
    · split <;> exact .refl s

theorem PayRequest.treat_moves (r : PayRequest) (s : State) : Moves s (r.treat s).state := by
  cases r with
  | status => exact .refl s
  | nextAuthorisation =>
    show Moves s s.treatNextAuthorisation.state
    unfold State.treatNextAuthorisation
    repeat' split
    all_goals exact .refl s
  | authorise b n hold ref => exact State.treatAuthorise_moves b n hold ref s
  | decline b n => exact State.treatDecline_moves b n s
  | cancel b n => exact State.treatCancel_moves b n s
  | viewSession b =>
    show Moves s (s.treatViewSession b).state
    unfold State.treatViewSession
    repeat' split
    all_goals exact .refl s
  | fetch =>
    show Moves s s.treatFetch.state
    unfold State.treatFetch
    repeat' split
    all_goals exact .refl s
  | settle n => exact State.treatSettle_moves n s
  | acknowledge mask =>
    show Moves s (s.treatPayAcknowledge mask).state
    unfold State.treatPayAcknowledge
    split
    · exact .refl s
    · exact Move.moves (.pay s _)
  | setLevel c l =>
    show Moves s (s.treatPaySetLevel c l).state
    unfold State.treatPaySetLevel
    split
    · exact Move.moves (.pay s _)
    · exact .refl s

/-- R152: the gate passes the request on, or answers it and changes nothing. -/
theorem State.gate_state (s : State) (b : Bool) (treat : State → Treated) :
    (s.gate b treat).state = (treat s).state ∨ (s.gate b treat).state = s := by
  unfold State.gate
  split
  · exact .inl rfl
  · split
    · exact .inr rfl
    · exact .inr rfl
    · exact .inl rfl

theorem State.payArrive_moves {s : State} {treat : State → Treated}
    (h : ∀ t, Moves t (treat t).state) (kind : Byte) : Moves s (s.payArrive kind treat) := by
  have hwindow : Moves s s.windowEnded := Move.moves (.pay s { s.pay with window := none })
  unfold State.payArrive
  dsimp only
  split
  · exact hwindow.tail (.pay s.windowEnded { s.windowEnded.pay with dropped := true })
  · split
    · exact (hwindow.trans (h s.windowEnded)).tail (.pay _ _)
    · exact (hwindow.trans (h s.windowEnded)).tail (.pay _ _)

theorem State.payRequest_effect (s : State) (r : PayRequest) : Effect s (s.payRequest r) := by
  refine .of_event (State.payArrive_moves (fun t => ?_) r.kind)
  obtain hgate | hgate := State.gate_state t r.isStatus r.treat
  · rw [hgate]
    exact r.treat_moves t
  · rw [hgate]

theorem State.payRefusal_effect (s : State) (kind : Byte) (o : OutcomeCode) :
    Effect s (s.payRefusal kind o) :=
  .of_event (State.payArrive_moves (fun t => .refl t) kind)

/-! ### Site requests -/

theorem Session.bind_state (x : Session) (row : RowIndex) (t : Tariff) (now : ClockStamp) :
    (x.bind row t now).state = x.state := by
  unfold Session.bind Session.rebind
  repeat' split
  all_goals rfl

/-- R95: a bind moves a pedestal's binding and its session, whose state it keeps. -/
theorem State.bindPedestal_moves (row : RowIndex) (s : State) (p : Pedestal) :
    Moves s (State.bindPedestal row s p) := by
  unfold State.bindPedestal
  dsimp only
  have hbound := Move.moves (.binding s (putCell s.account.bindings p row))
  split
  · next x hx => exact hbound.tail (.table (.session _ p x _ hx (.bind _ _ _)))
  · exact hbound

theorem State.bindPedestal_counts (row : RowIndex) (s : State) (p q : Pedestal) :
    (State.bindPedestal row s p).countsForPower q = s.countsForPower q := by
  unfold State.bindPedestal
  dsimp only
  split
  · next x hx =>
    rw [State.countsForPower_putSession]
    split
    · next hq => rw [hq, Session.bind_state, State.countsForPower_of_session hx]
    · rfl
  · rfl

theorem State.bindPedestal_allot (row : RowIndex) (s : State) (p : Pedestal) :
    (State.bindPedestal row s p).allot = s.allot ∧ (State.bindPedestal row s p).loop = s.loop := by
  unfold State.bindPedestal
  dsimp only
  split <;> exact ⟨rfl, rfl⟩

/-- R95: the binds of a list of pedestals are moves, which leave the allotment, the loop and every
pedestal's membership of READY and DELIVERING alone. -/
theorem State.bindAll_keeps (row : RowIndex) (l : List Pedestal) (s : State) :
    Moves s (l.foldl (State.bindPedestal row) s)
      ∧ (∀ q, (l.foldl (State.bindPedestal row) s).countsForPower q = s.countsForPower q)
      ∧ (l.foldl (State.bindPedestal row) s).allot = s.allot
      ∧ (l.foldl (State.bindPedestal row) s).loop = s.loop := by
  induction l generalizing s with
  | nil => exact ⟨.refl s, fun _ => rfl, rfl, rfl⟩
  | cons p rest ih =>
    obtain ⟨hmoves, hcounts, hallot, hloop⟩ := ih (State.bindPedestal row s p)
    obtain ⟨hallot', hloop'⟩ := State.bindPedestal_allot row s p
    exact ⟨(State.bindPedestal_moves row s p).trans hmoves,
      fun q => (hcounts q).trans (State.bindPedestal_counts row s p q),
      hallot.trans hallot', hloop.trans hloop'⟩

/-- R95, R29: a taken bind is no cause of a recompute. -/
theorem State.bindMask_event (s : State) (mask : BitVec 16) (row : RowIndex) :
    Event s (s.bindMask mask row) := by
  obtain ⟨hmoves, hcounts, hallot, hloop⟩ :=
    State.bindAll_keeps row (pedestals.filter fun p => mask.getLsbD p.val) s
  have hlink (p : Pedestal) : (s.bindMask mask row).loopEntry p = s.loopEntry p :=
    State.loopEntry_congr (congrArg (·.entries) hloop) p
  refine .of_moves hmoves (recomputeAfter_of_noCause (fun p => ?_) fun f => ?_)
  · exact pedestalCause_eq_false (by rw [hlink]) (hcounts p) (by rw [hlink])
      (congrArg (·.tracking) (State.entry_congr (congrArg (·.entries) hallot) p))
  · exact congrArg (·.applied) (State.feeder_congr (congrArg (·.feeders) hallot) f)

theorem Event.of_move {s u : State} (h : Move s u) (h1 : u.account.slots = s.account.slots)
    (h2 : u.allot = s.allot) (h3 : u.loop.entries = s.loop.entries) : Event s u :=
  .of_moves h.moves (recomputeAfter_of_same h1 h2 h3)

theorem State.quiescePark_event (s : State) : Event s s.quiescePark := by
  unfold State.quiescePark
  split
  · next hpark =>
    refine .of_move (.park s _ (by rw [hpark]; exact nofun) ?_) rfl rfl rfl
    split <;> exact nofun
  · exact .refl s

theorem State.resumePark_event (s : State) : Event s s.resumePark := by
  unfold State.resumePark
  split
  · next hpark => exact .of_move (.park s _ (by rw [hpark]; exact nofun) nofun) rfl rfl rfl
  · next hpark => exact .of_move (.park s _ (by rw [hpark]; exact nofun) nofun) rfl rfl rfl
  · exact .refl s

theorem SiteRequest.treat_event (r : SiteRequest) (s : State) : Event s (r.treat s).state := by
  cases r with
  | status => exact .refl s
  | setSiteCeiling c => exact .configured _ (.siteCeiling _)
  | setFeeder f c e tl th fl =>
    show Event s (s.treatSetFeeder f c e tl th fl).state
    unfold State.treatSetFeeder
    split
    · exact .configured _ (.feeder _ _)
    · exact .refl s
  | setPedestal p a f c cap m =>
    show Event s (s.treatSetPedestal p a f c cap m).state
    unfold State.treatSetPedestal
    split
    · next k c' _ _ =>
      split
      · exact .refl s
      · next hfree => exact .configured _ (.pedestal _ _ (by simpa using hfree))
    · exact .refl s
  | setParameters m st i sl h t q =>
    show Event s (s.treatSetParameters m st i sl h t q).state
    unfold State.treatSetParameters
    split
    · exact .configured _ (.parameters _ _)
    · exact .refl s
  | writeTariffRow r v e ff g pm cap =>
    show Event s (s.treatWriteTariffRow r v e ff g pm cap).state
    unfold State.treatWriteTariffRow
    split
    · split
      · exact .refl s
      · split
        · exact .refl s
        · exact .of_move (.row s _) rfl rfl rfl
    · exact .refl s
  | bindTariff m r =>
    show Event s (s.treatBindTariff m r).state
    unfold State.treatBindTariff
    split
    · exact .refl s
    · split
      · exact s.bindMask_event m _
      · exact .refl s
  | setClock t => exact .of_move (.time s _) rfl rfl rfl
  | quiesce => exact s.quiescePark_event
  | resume => exact s.resumePark_event
  | readAllotment b =>
    show Event s (s.treatReadAllotment b).state
    unfold State.treatReadAllotment
    split <;> exact .refl s
  | readFeeder b =>
    show Event s (s.treatReadFeeder b).state
    unfold State.treatReadFeeder
    split <;> exact .refl s
  | saveSettings => exact .of_move (.saves s) rfl rfl rfl
  | acknowledge mask =>
    show Event s (s.treatSiteAcknowledge mask).state
    unfold State.treatSiteAcknowledge
    split
    · exact .refl s
    · exact .of_move (.site s _) rfl rfl rfl
  | setLevel c l =>
    show Event s (s.treatSiteSetLevel c l).state
    unfold State.treatSiteSetLevel
    split
    · exact .of_move (.site s _) rfl rfl rfl
    · exact .refl s

/-- R164: an arrival at the Site Port is the event of its treatment with the reply after it. -/
theorem State.siteArrive_event {s : State} {treat : State → Treated} (h : Event s (treat s).state)
    (kind : Byte) : ∃ v, Event s v ∧ After v (s.siteArrive kind treat) := by
  unfold State.siteArrive
  split
  · exact ⟨s, .refl s, .site _⟩
  · refine ⟨_, h, ?_⟩
    dsimp only
    split
    · exact .site _
    · exact .site _

theorem State.siteRequest_effect (s : State) (r : SiteRequest) : Effect s (s.siteRequest r) := by
  have hgate : Event s (s.gate r.isStatus r.treat).state := by
    obtain hgate | hgate := State.gate_state s r.isStatus r.treat
    · rw [hgate]
      exact r.treat_event s
    · rw [hgate]
      exact .refl s
  obtain ⟨v, hevent, hafter⟩ :=
    State.siteArrive_event (treat := fun u => u.gate r.isStatus r.treat) hgate r.kind
  exact .of_quiet hevent hafter

theorem State.siteRefusal_effect (s : State) (kind : Byte) (o : OutcomeCode) :
    Effect s (s.siteRefusal kind o) := by
  obtain ⟨v, hevent, hafter⟩ :=
    State.siteArrive_event (treat := fun u => u.answer o []) (.refl s) kind
  exact .of_quiet hevent hafter

end Sys2Proof.Machine
end

section
/-! SUPPORT. Every command's effect, and so every step's: the principle by which a property that the
moves, the configurations and the ends of events keep is kept by every step. -/

namespace Sys2Proof.Machine
open Sys2Proof

/-! ### Rounds, the supply and the scan -/

/-- R133: the next exchange is begun, or none is in flight; nothing else of the machine changes. -/
theorem State.beginExchange_eq (s : State) (n : Nat) :
    ∃ x tx driver, s.beginExchange n =
      { s with loop := { s.loop with exchange := x, loopTx := tx, driverEnable := driver } } := by
  unfold State.beginExchange
  split
  · exact ⟨_, _, _, rfl⟩
  · exact ⟨none, s.loop.loopTx, s.loop.driverEnable, rfl⟩

/-- R132: a poll round is counted and the next is due after the period. -/
def State.roundBegun (s : State) : State :=
  { s with loop := { s.loop with round := s.loop.round + 1, nextRound := some Config.roundPeriod } }

@[simp] theorem State.roundBegun_countsForPower (s : State) (p : Pedestal) :
    s.roundBegun.countsForPower p = s.countsForPower p := rfl
@[simp] theorem State.roundBegun_entry (s : State) (p : Pedestal) :
    s.roundBegun.entry p = s.entry p := rfl
@[simp] theorem State.roundBegun_feeder (s : State) (f : Feeder) :
    s.roundBegun.feeder f = s.feeder f := rfl
@[simp] theorem State.roundBegun_entries (s : State) :
    s.roundBegun.loop.entries = s.loop.entries := rfl

theorem State.roundBegun_event (s : State) (left : Nat) : Event s (s.advance left).roundBegun := by
  have hmoves : Moves s (s.advance left).roundBegun :=
    (TableMove.moves (.advance s left)).tail (.round (s.advance left) _ _)
  exact .of_moves hmoves (recomputeAfter_advance left (by simp) (by simp) (by simp) (by simp))

theorem execRoundStart_effect (s : State) : ∃ t, execRoundStart s = .next t ∧ Effect s t := by
  refine ⟨_, rfl, ?_⟩
  split
  · next left _ _ =>
    exact .of_quiet (f := fun t => (t.advance left).roundBegun.beginExchange 0)
      (s.roundBegun_event left) (.exchange 0)
  · exact .ignored

theorem State.powerFailSlot_moves (s : State) (p : Pedestal) : Moves s (s.powerFailSlot p) := by
  unfold State.powerFailSlot
  split
  · exact .refl s
  · next x hx =>
    split
    · next hstate => exact TableMove.moves (.voids s p _ x hx (.inl hstate))
    · next hstate => exact TableMove.moves (.closes s p _ _ x hx (.inl hstate))

theorem State.powerFailAll_moves (l : List Pedestal) (s : State) :
    Moves s (l.foldl State.powerFailSlot s) := by
  induction l generalizing s with
  | nil => exact .refl s
  | cons p rest ih => exact (s.powerFailSlot_moves p).trans (ih _)

theorem execSupplyCompletion_effect (code : BitVec 12) (s : State) :
    ∃ t, execSupplyCompletion code s = .next t ∧ Effect s t := by
  refine ⟨_, rfl, ?_⟩
  let counted : State := { s with meas := s.meas.supply code }
  have hcounted : Moves s counted := Move.moves (.meas s _)
  have hsame : Event s counted := .of_move (.meas s _) rfl rfl rfl
  by_cases hreset : s.resetAsserted = true
  · rw [State.quiet, if_pos hreset]
    exact .ignored
  have hquiet (t : State) (ht : counted.watchSupply = t) :
      (s.quiet fun u => ({ u with meas := u.meas.supply code } : State).watchSupply) = t.finish := by
    rw [State.quiet, if_neg hreset, ← ht]
  have hrun : s.resetAsserted = false := by simpa using hreset
  by_cases hpark : s.park.state ≠ .powerFail
  · by_cases hfail : counted.meas.belowRun = Config.failRun
    · rw [hquiet counted.enterPowerFail (by rw [State.watchSupply, if_pos hpark, if_pos hfail])]
      exact .event _ _ hrun
        (.forced _ ((hcounted.tail (.halts counted)).trans (State.powerFailAll_moves pedestals _)))
        .nothing
    · rw [hquiet counted (by rw [State.watchSupply, if_pos hpark, if_neg hfail])]
      exact .event _ _ hrun hsame .nothing
  · by_cases hgood : (decide (Config.goodRun ≤ counted.meas.aboveRun) && counted.store.drained) = true
    · rw [hquiet counted.restart (by rw [State.watchSupply, if_neg hpark, if_pos hgood])]
      exact .restartedHere
    · rw [hquiet counted (by rw [State.watchSupply, if_neg hpark, if_neg hgood])]
      exact .event _ _ hrun hsame .nothing

theorem State.ageSlots_eq (s : State) (aged : List (RecordSlot × SlotCells)) :
    s.ageSlots aged = { s with store := { s.store with array := (s.ageSlots aged).store.array } } := by
  unfold State.ageSlots
  induction aged generalizing s with
  | nil => rfl
  | cons x rest ih =>
    rw [List.foldl_cons, ih]
    rfl

/-- R177: the scan's end leaves the session table, the allotment and the loop entries alone. -/
theorem State.endScan_same (s : State) (aged : List (RecordSlot × SlotCells)) :
    (s.endScan aged).account.slots = s.account.slots ∧ (s.endScan aged).allot = s.allot
      ∧ (s.endScan aged).loop.entries = s.loop.entries := by
  unfold State.endScan
  dsimp only
  obtain ⟨x, tx, driver, hbegin⟩ := State.beginExchange_eq _ 0
  rw [hbegin, State.ageSlots_eq]
  exact ⟨rfl, rfl, rfl⟩

/-! ### Every command -/

theorem execAnswerFrameReceived_effect (rx : List LoopChar) (s : State) :
    ∃ t, execAnswerFrameReceived rx s = .next t ∧ Effect s t := by
  refine ⟨_, rfl, ?_⟩
  split
  · next x frame _ _ => exact .of_endExchange (s.takeAnswer_moves x.pedestal frame)
  · exact .ignored

theorem execAnswerWindowClose_effect (s : State) :
    ∃ t, execAnswerWindowClose s = .next t ∧ Effect s t := by
  refine ⟨_, rfl, ?_⟩
  split
  · next x _ => exact .of_endExchange (s.miss_moves x.pedestal)
  · exact .ignored

/-- A timer of a pedestal's session that runs is that of a session, which is still there at its due
moment. -/
theorem State.sessionTimer_eq_some {s : State} {p : Pedestal} {timer : Session → Option Nat}
    {left : Nat} (h : s.sessionTimer p timer = some left) :
    ∃ x, s.session p = some x ∧ timer x = some left
      ∧ (s.advance left).session p = some (x.advance left) := by
  unfold State.sessionTimer at h
  split at h
  · next x hx => exact ⟨x, hx, h, State.advance_session_of hx left⟩
  · cases h

theorem runDown_isSome {n : Nat} {t : Option Nat} {left : Nat} (h : t = some left) :
    (runDown n t).isSome = true := by
  rw [h]
  rfl

theorem execAuthorisationWindowExpiry_effect (p : Pedestal) (s : State) :
    ∃ t, execAuthorisationWindowExpiry p s = .next t ∧ Effect s t := by
  refine ⟨_, rfl, .of_expiry fun left htimer => ?_⟩
  obtain ⟨x, -, hwindow, hx⟩ := State.sessionTimer_eq_some htimer
  exact TableMove.moves (.voids _ p true _ hx (.inr (runDown_isSome hwindow)))

theorem execStopWindowExpiry_effect (p : Pedestal) (s : State) :
    ∃ t, execStopWindowExpiry p s = .next t ∧ Effect s t := by
  refine ⟨_, rfl, .of_expiry fun left htimer => ?_⟩
  obtain ⟨x, -, hwindow, hx⟩ := State.sessionTimer_eq_some htimer
  have hsome : (x.advance left).stopWindow.isSome = true := runDown_isSome hwindow
  unfold State.stopIgnored
  rw [hx]
  exact (TableMove.moves (.session _ p _ _ hx (.ignoreStop hsome))).tail
    (.table (.parks _ p .stop _ (State.session_putSession_self _ p _) (.inr hsome)))

theorem execLinkLossTimerExpiry_effect (p : Pedestal) (s : State) :
    ∃ t, execLinkLossTimerExpiry p s = .next t ∧ Effect s t := by
  refine ⟨_, rfl, .of_expiry fun left htimer => ?_⟩
  obtain ⟨x, -, hwindow, hx⟩ := State.sessionTimer_eq_some htimer
  exact TableMove.moves (.closes _ p _ true _ hx (.inr (runDown_isSome hwindow)))

theorem execRampTimerExpiry_effect (p : Pedestal) (s : State) :
    ∃ t, execRampTimerExpiry p s = .next t ∧ Effect s t :=
  ⟨_, rfl, .of_expiry fun _ _ => TableMove.moves (.ramps _ p)⟩

theorem execOverstayMinuteEnd_effect (p : Pedestal) (s : State) :
    ∃ t, execOverstayMinuteEnd p s = .next t ∧ Effect s t := by
  refine ⟨_, rfl, .of_expiry fun left htimer => ?_⟩
  unfold State.minuteLeft at htimer
  split at htimer
  · next x hx =>
    dsimp only at htimer
    split at htimer
    · next hdue =>
      have hparked : x.state = .parked := by
        simp only [Bool.and_eq_true, decide_eq_true_eq] at hdue
        exact hdue.1
      have hx' := State.advance_session_of hx left
      unfold State.endMinute
      rw [hx']
      exact TableMove.moves (.session _ p _ _ hx' (.minute hparked))
    · cases htimer
  · cases htimer

theorem State.writeFeeder_moves {s : State} {f : Feeder} {e : FeederEntry}
    (h : Move s (s.putFeeder f e)) : Moves s (s.writeFeeder f e) := by
  unfold State.writeFeeder
  dsimp only
  split
  · exact h.moves
  · exact h.moves.trans (State.raiseSite_moves _ _)

theorem execTemperatureCompletion_effect (f : Feeder) (code : BitVec 12) (s : State) :
    ∃ t, execTemperatureCompletion f code s = .next t ∧ Effect s t := by
  refine ⟨_, rfl, .of_event ?_⟩
  have hheld : Moves s (s.storeCode f code) := Move.moves (.meas s _)
  dsimp only
  split
  · exact hheld.trans (State.writeFeeder_moves (.factor _ f code))
  · exact hheld

theorem State.advance_flight {s : State} {op : Operation} {left : Nat}
    (h : s.store.flight = some { op := op, left := left }) (n : Nat) :
    (s.advance n).store.flight = some { op := op, left := left - n } := by
  show s.store.flight.map _ = _
  rw [h]
  rfl

/-- The end of the operation in flight, taken at its due moment. -/
theorem Effect.of_operation {s : State} {op : Operation} {left n : Nat} {f : State → State}
    (h : s.store.flight = some { op := op, left := left })
    (hend : ∀ t : State, t.store.flight = some { op := op, left := left - n } → Move t (f t)) :
    Effect s (s.event fun t => f (t.advanceTo n)) :=
  .of_event (.head (.table (.advance s n)) (hend _ (State.advance_flight h n)).moves)

theorem execRecordWriteEnd_effect (v : WriteVerify) (s : State) :
    ∃ t, execRecordWriteEnd v s = .next t ∧ Effect s t := by
  refine ⟨_, rfl, ?_⟩
  split
  · next n i eraseFirst retry left hflight =>
    split
    · exact .of_operation (f := fun t => t.endWrite n i retry v) hflight
        fun t ht => .endsWrite t n i eraseFirst retry _ v ht
    · exact .ignored
  · exact .ignored

theorem execSettledMarkEnd_effect (v : Verify Bool) (s : State) :
    ∃ t, execSettledMarkEnd v s = .next t ∧ Effect s t := by
  refine ⟨_, rfl, ?_⟩
  split
  · next n i left hflight =>
    exact .of_operation (f := fun t => t.endMark n i v) hflight
      fun t ht => .endsMark t n i _ v ht
  · exact .ignored

theorem execEraseEnd_effect (v : Verify SlotCells) (s : State) :
    ∃ t, execEraseEnd v s = .next t ∧ Effect s t := by
  refine ⟨_, rfl, ?_⟩
  split
  · next i left hflight =>
    exact .of_operation (f := fun t => t.endErase i v) hflight
      fun t ht => .endsErase t i _ v ht
  · exact .ignored

theorem execReservationWriteEnd_effect (v : Verify (Area Nat)) (s : State) :
    ∃ t, execReservationWriteEnd v s = .next t ∧ Effect s t := by
  refine ⟨_, rfl, ?_⟩
  split
  · next l left hflight =>
    exact .of_operation (f := fun t => t.endReservation l v) hflight
      fun t ht => .endsReservation t l _ v ht
  · exact .ignored

theorem execSettingsSaveEnd_effect (v : Verify (Area Settings)) (s : State) :
    ∃ t, execSettingsSaveEnd v s = .next t ∧ Effect s t := by
  refine ⟨_, rfl, ?_⟩
  split
  · next c left hflight =>
    exact .of_operation (f := fun t => t.endSave c v) hflight
      fun t ht => .endsSave t c _ v ht
  · exact .ignored

theorem execHardwareResetAssert_effect (cut : CutPoint) (s : State) :
    ∃ t, execHardwareResetAssert cut s = .next t ∧ Effect s t := by
  refine ⟨_, rfl, ?_⟩
  split
  · exact .ignored
  · exact .asserted cut

theorem execRestoreEnd_effect (r : RestoreReading) (s : State) :
    ∃ t, execRestoreEnd r s = .next t ∧ Effect s t := by
  refine ⟨_, rfl, ?_⟩
  split
  · next hstep => exact .of_quiet (.configured _ (.restored r hstep)) .nothing
  · exact .ignored

theorem execScanEnd_effect (aged : List (RecordSlot × SlotCells)) (s : State) :
    ∃ t, execScanEnd aged s = .next t ∧ Effect s t := by
  refine ⟨_, rfl, ?_⟩
  split
  · next hstep =>
    obtain ⟨hslots, hallot, hentries⟩ := s.endScan_same aged
    exact .of_quiet (.of_move (.scans s aged hstep) hslots hallot hentries) .nothing
  · exact .ignored

/-- R149, R153: an event of the Payment Port alone. -/
theorem Effect.of_payQuiet {s : State} {f : State → State} {x : PayPort}
    (h : f s = { s with pay := x }) : Effect s (s.quiet f) := by
  refine .of_quiet (v := f s) ?_ .nothing
  rw [h]
  exact .of_move (.pay s x) rfl rfl rfl

theorem State.closeWindow_eq (s : State) (clocked : Nat) :
    s.closeWindow clocked = { s with pay := (s.closeWindow clocked).pay } := by
  unfold State.closeWindow
  dsimp only
  split <;> rfl

theorem execPayUnknownRequest_effect (frame : List Byte) (partByte : Bool) (s : State) :
    ∃ t, execPayUnknownRequest frame partByte s = .next t ∧ Effect s t := by
  refine ⟨_, rfl, ?_⟩
  split
  · exact .ignored
  · split
    · exact .of_payQuiet (State.closeWindow_eq s.openWindow _)
    · split
      · exact s.payRefusal_effect _ _
      · exact s.payRefusal_effect _ _
      · exact s.payRequest_effect _

theorem execSiteUnknownRequest_effect (frame : List Byte) (partByte : Bool) (s : State) :
    ∃ t, execSiteUnknownRequest frame partByte s = .next t ∧ Effect s t := by
  refine ⟨_, rfl, ?_⟩
  split
  · exact .ignored
  · split
    · exact s.siteRefusal_effect _ _
    · exact s.siteRefusal_effect _ _
    · exact s.siteRequest_effect _

theorem execSiteReadTransaction_effect (clocked : Nat) (s : State) :
    ∃ t, execSiteReadTransaction clocked s = .next t ∧ Effect s t := by
  refine ⟨_, rfl, .of_quiet (.refl s) ?_⟩
  unfold State.readTransaction
  split <;> exact .site _

/-- Every command has an effect, in every state. -/
theorem exec_effect (c : Instr) (s : State) : ∃ t, exec c s = .next t ∧ Effect s t := by
  cases c with
  | roundStart => exact execRoundStart_effect s
  | answerFrameReceived rx => exact execAnswerFrameReceived_effect rx s
  | answerWindowClose => exact execAnswerWindowClose_effect s
  | authorisationWindowExpiry p => exact execAuthorisationWindowExpiry_effect p s
  | stopWindowExpiry p => exact execStopWindowExpiry_effect p s
  | linkLossTimerExpiry p => exact execLinkLossTimerExpiry_effect p s
  | rampTimerExpiry p => exact execRampTimerExpiry_effect p s
  | overstayMinuteEnd p => exact execOverstayMinuteEnd_effect p s
  | temperatureCompletion f code => exact execTemperatureCompletion_effect f code s
  | supplyCompletion code => exact execSupplyCompletion_effect code s
  | recordWriteEnd v => exact execRecordWriteEnd_effect v s
  | settledMarkEnd v => exact execSettledMarkEnd_effect v s
  | eraseEnd v => exact execEraseEnd_effect v s
  | reservationWriteEnd v => exact execReservationWriteEnd_effect v s
  | settingsSaveEnd v => exact execSettingsSaveEnd_effect v s
  | hardwareResetAssert cut => exact execHardwareResetAssert_effect cut s
  | hardwareResetEnd => exact ⟨_, rfl, .restarted⟩
  | restoreEnd r => exact execRestoreEnd_effect r s
  | scanEnd aged => exact execScanEnd_effect aged s
  | payUnknownRequest frame partByte => exact execPayUnknownRequest_effect frame partByte s
  | payReadWindow clocked =>
    exact ⟨_, rfl, .of_payQuiet (State.closeWindow_eq s clocked)⟩
  | readWindowOpens => exact ⟨_, rfl, .of_payQuiet (f := State.openWindow) rfl⟩
  | siteUnknownRequest frame partByte => exact execSiteUnknownRequest_effect frame partByte s
  | siteReadTransaction clocked => exact execSiteReadTransaction_effect clocked s
  | payStatus | nextAuthorisation | authorise | decline | cancel | viewSession | fetch | settle
  | payAcknowledge | paySetLevel => exact ⟨_, rfl, s.payRequest_effect _⟩
  | siteStatus | setSiteCeiling | setFeeder | setPedestal | setParameters | writeTariffRow
  | bindTariff | setClock | quiesce | resume | readAllotment | readFeeder | saveSettings
  | siteAcknowledge | siteSetLevel => exact ⟨_, rfl, s.siteRequest_effect _⟩

/-! ### Every step -/

/-- What a step does: a millisecond passes, or the front command takes effect. -/
theorem step_cases {s t : State} (h : step s = .next t) :
    t = s.tick ∨ ∃ rest, Effect { s with pending := rest } t := by
  unfold step at h
  split at h
  · cases h
    exact .inl rfl
  · next c rest _ =>
    obtain ⟨u, hu, heffect⟩ := exec_effect c { s with pending := rest }
    rw [hu] at h
    cases h
    exact .inr ⟨rest, heffect⟩

/-- A property that waiting commands do not matter to, that a millisecond keeps and that every command's
effect keeps, is kept by every step. -/
theorem step_keeps {P : State → Prop} (hpending : ∀ s q, P s → P { s with pending := q })
    (hadvance : ∀ s, P s → P (s.advance 1)) (heffect : ∀ s t, P s → Effect s t → P t) {s t : State}
    (hs : P s) (h : step s = .next t) : P t := by
  obtain rfl | ⟨rest, he⟩ := step_cases h
  · unfold State.tick
    split
    · exact hs
    · exact hpending _ _ (hadvance s hs)
  · exact heffect _ t (hpending s rest hs) he

theorem Moves.keeps {P : State → Prop} (hmove : ∀ s t, P s → Move s t → P t) {s t : State}
    (hs : P s) (h : Moves s t) : P t := by
  induction h with
  | refl => exact hs
  | tail _ hm ih => exact hmove _ _ ih hm

/-- What follows an event's recompute is a move, or nothing. -/
theorem After.moves {v w : State} (h : After v w) : Moves v w := by
  cases h with
  | nothing => exact .refl v
  | exchange n => exact Move.moves (.exchange v n)
  | site x => exact Move.moves (.site v x)

/-- A property that every move, every configuration with its recompute, every recompute and every end of
an event keep, and that resets establish, is kept by an effect. -/
theorem Effect.keeps {P : State → Prop} {s t : State} (hmove : ∀ s t, P s → Move s t → P t)
    (hconfigured : ∀ t, Configured s t → P t.recompute)
    (hrecompute : ∀ s, P s → P s.recompute) (hfinish : ∀ s, P s → P s.finish)
    (hassert : ∀ cut, P (s.assertReset cut)) (hreset : ∀ a addr q, P (.afterReset a addr q))
    (hs : P s) (h : Effect s t) : P t := by
  cases h with
  | ignored => exact hs
  | asserted cut => exact hassert cut
  | restarted => exact hreset _ _ _
  | restartedHere => exact hfinish _ (hreset _ _ _)
  | event v w _ hevent hafter =>
    refine hfinish w (Moves.keeps hmove ?_ hafter.moves)
    cases hevent with
    | plain u hmoves =>
      have hu := Moves.keeps hmove hs hmoves
      unfold recomputeAfter
      split
      · exact hrecompute u hu
      · exact hu
    | forced u hmoves => exact hrecompute u (Moves.keeps hmove hs hmoves)
    | configured u hu => exact hconfigured u hu

end Sys2Proof.Machine
end

section
/-! SUPPORT. What the moves leave alone: the ends of store operations change the Store Controller and the
ports, and only a move of the tables changes the session slots, the allotment entries, the authorisation
queue or the open count. -/

namespace Sys2Proof.Machine
open Sys2Proof

/-! ### The ends of store operations -/

/-- A store operation changes the Store Controller, the ports and the reservation limit at most. -/
structure State.storeOnly (t s : State) : Prop where
  time : t.time = s.time
  park : t.park = s.park
  slots : t.account.slots = s.account.slots
  authQueue : t.account.authQueue = s.account.authQueue
  nextNumber : t.account.nextNumber = s.account.nextNumber
  nextClose : t.account.nextClose = s.account.nextClose
  rows : t.account.rows = s.account.rows
  bindings : t.account.bindings = s.account.bindings
  allot : t.allot = s.allot
  loop : t.loop = s.loop
  meas : t.meas = s.meas

/-- An operation that leaves these blocks alone. -/
theorem State.storeOnly_of_blocks {t s : State} (htime : t.time = s.time) (hpark : t.park = s.park)
    (haccount : t.account = s.account) (hallot : t.allot = s.allot) (hloop : t.loop = s.loop)
    (hmeas : t.meas = s.meas) : t.storeOnly s :=
  { time := htime, park := hpark, allot := hallot, loop := hloop, meas := hmeas
    slots := congrArg Account.slots haccount
    authQueue := congrArg Account.authQueue haccount
    nextNumber := congrArg Account.nextNumber haccount
    nextClose := congrArg Account.nextClose haccount
    rows := congrArg Account.rows haccount
    bindings := congrArg Account.bindings haccount }

theorem State.storeOnly_trans {u t s : State} (h : u.storeOnly t) (k : t.storeOnly s) :
    u.storeOnly s :=
  { time := h.time.trans k.time, park := h.park.trans k.park, allot := h.allot.trans k.allot
    loop := h.loop.trans k.loop, meas := h.meas.trans k.meas, slots := h.slots.trans k.slots
    authQueue := h.authQueue.trans k.authQueue, nextNumber := h.nextNumber.trans k.nextNumber
    nextClose := h.nextClose.trans k.nextClose, rows := h.rows.trans k.rows
    bindings := h.bindings.trans k.bindings }

theorem State.claimFor_storeOnly {s t : State} {n : Nat} {c : SlotClaim}
    (h : s.claimFor n = some (t, c)) : t.storeOnly s := by
  unfold State.claimFor at h
  split at h
  · cases h
    apply State.storeOnly_of_blocks <;> simp
  · cases h

theorem State.endNotDurable_storeOnly (s : State) (n : Nat) : (s.endNotDurable n).storeOnly s := by
  apply State.storeOnly_of_blocks <;> simp

theorem State.putFlight_storeOnly (s : State) (f : Option Flight) : (s.putFlight f).storeOnly s := by
  apply State.storeOnly_of_blocks <;> simp

theorem State.writeFailed_storeOnly (s : State) (n : Nat) (i : RecordSlot) (retry : Bool)
    (left : SlotCells) : (s.writeFailed n i retry left).storeOnly s := by
  have hbad : ((s.putSlotCells i left).putSlotState i .bad).storeOnly s := by
    apply State.storeOnly_of_blocks <;> simp
  have hlost := State.storeOnly_trans (State.putFlight_storeOnly _ none)
    (State.storeOnly_trans (State.endNotDurable_storeOnly _ n) hbad)
  unfold State.writeFailed
  dsimp only
  split
  · exact hlost
  · split
    · next t c hclaim =>
      exact State.storeOnly_trans (State.putFlight_storeOnly t _)
        (State.storeOnly_trans (State.claimFor_storeOnly hclaim) hbad)
    · exact hlost

theorem State.writePassed_storeOnly (s : State) (n : Nat) (i : RecordSlot) :
    (s.writePassed n i).storeOnly s := by
  unfold State.writePassed
  dsimp only
  split <;> apply State.storeOnly_of_blocks <;> simp

theorem State.endWrite_storeOnly (s : State) (n : Nat) (i : RecordSlot) (retry : Bool)
    (v : WriteVerify) : (s.endWrite n i retry v).storeOnly s := by
  cases v with
  | pass => exact s.writePassed_storeOnly n i
  | fail left takes => exact s.writeFailed_storeOnly n i retry _
  | eraseFail left => exact s.writeFailed_storeOnly n i retry left

theorem State.payDeferred_storeOnly (s : State) (kind : Byte) (r : Reply) :
    (s.payDeferred kind r).storeOnly s := by
  unfold State.payDeferred
  split <;> apply State.storeOnly_of_blocks <;> simp

theorem State.siteDeferred_storeOnly (s : State) (kind : Byte) (r : Reply) :
    (s.siteDeferred kind r).storeOnly s := by
  unfold State.siteDeferred
  split <;> apply State.storeOnly_of_blocks <;> simp

theorem State.endMark_storeOnly (s : State) (n : Nat) (i : RecordSlot) (v : Verify Bool) :
    (s.endMark n i v).storeOnly s := by
  cases v with
  | pass =>
    refine State.storeOnly_trans (State.payDeferred_storeOnly _ _ _) ?_
    apply State.storeOnly_of_blocks <;> simp
  | fail blank =>
    refine State.storeOnly_trans (State.payDeferred_storeOnly _ _ _) ?_
    apply State.storeOnly_of_blocks <;> simp

theorem State.claimAgain_storeOnly (s : State) (n : Nat) : (s.claimAgain n).storeOnly s := by
  unfold State.claimAgain
  split
  · next t c hclaim => exact State.claimFor_storeOnly hclaim
  · apply State.storeOnly_of_blocks <;> simp

theorem State.endErase_storeOnly (s : State) (i : RecordSlot) (v : Verify SlotCells) :
    (s.endErase i v).storeOnly s := by
  cases v with
  | pass =>
    simp only [State.endErase, State.erasePassed]
    apply State.storeOnly_of_blocks <;> simp
  | fail left =>
    have hbad : (((s.putSlotCells i left).putSlotState i .bad).putFlight
        none).raiseStoreFault.storeOnly s := by
      apply State.storeOnly_of_blocks <;> simp
    simp only [State.endErase, State.eraseFailed]
    split
    · exact State.storeOnly_trans (State.claimAgain_storeOnly _ _) hbad
    · exact hbad

theorem State.endReservation_storeOnly (s : State) (l : Nat) (v : Verify (Area Nat)) :
    (s.endReservation l v).storeOnly s := by
  cases v with
  | pass => constructor <;> rfl
  | fail left =>
    simp only [State.endReservation]
    apply State.storeOnly_of_blocks <;> rfl

theorem State.endSave_storeOnly (s : State) (c : Settings) (v : Verify (Area Settings)) :
    (s.endSave c v).storeOnly s := by
  cases v with
  | pass =>
    refine State.storeOnly_trans (State.siteDeferred_storeOnly _ _ _) ?_
    apply State.storeOnly_of_blocks <;> rfl
  | fail left =>
    refine State.storeOnly_trans (State.siteDeferred_storeOnly _ _ _) ?_
    apply State.storeOnly_of_blocks <;> rfl

/-! ### The tables that the moves share -/

/-- The session table with its queue and its count, and the allotment table with its parameters. -/
structure Tables where
  slots      : Vector SessionSlot 16
  authQueue  : List Pedestal
  openCount  : Nat
  entries    : Vector AllotEntry 16
  parameters : Parameters

/-- The tables of a state. -/
def State.tables (s : State) : Tables :=
  { slots := s.account.slots, authQueue := s.account.authQueue, openCount := s.park.openCount,
    entries := s.allot.entries, parameters := s.allot.parameters }

theorem State.tables_session {s t : State} (h : t.tables = s.tables) (p : Pedestal) :
    t.session p = s.session p :=
  State.session_congr (congrArg Tables.slots h) p

theorem State.tables_entry {s t : State} (h : t.tables = s.tables) (p : Pedestal) :
    t.entry p = s.entry p :=
  State.entry_congr (congrArg Tables.entries h) p

theorem State.tables_authQueue {s t : State} (h : t.tables = s.tables) :
    t.account.authQueue = s.account.authQueue :=
  congrArg Tables.authQueue h

theorem State.tables_openCount {s t : State} (h : t.tables = s.tables) :
    t.park.openCount = s.park.openCount :=
  congrArg Tables.openCount h

theorem State.tables_parameters {s t : State} (h : t.tables = s.tables) :
    t.allot.parameters = s.allot.parameters :=
  congrArg Tables.parameters h

theorem State.tables_occupied {s t : State} (h : t.tables = s.tables) : t.occupied = s.occupied :=
  State.occupied_congr fun p => by rw [State.tables_session h]

theorem State.tables_of_storeOnly {s t : State} (h : t.storeOnly s) : t.tables = s.tables := by
  simp only [State.tables, h.slots, h.authQueue, h.park, h.allot]

theorem State.endScan_tables (s : State) (aged : List (RecordSlot × SlotCells)) :
    (s.endScan aged).tables = s.tables := by
  unfold State.endScan
  dsimp only
  obtain ⟨x, tx, driver, hbegin⟩ := State.beginExchange_eq _ 0
  rw [hbegin, State.ageSlots_eq]
  rfl

@[simp] theorem State.beginExchange_tables (s : State) (n : Nat) :
    (s.beginExchange n).tables = s.tables := by
  obtain ⟨x, tx, driver, hbegin⟩ := s.beginExchange_eq n
  rw [hbegin]
  rfl

@[simp] theorem State.finish_tables (s : State) : s.finish.tables = s.tables := by
  simp only [State.tables, State.finish_account, State.finish_park, State.finish_allot]

/-- A move is one of the tables, or leaves them alone. -/
theorem Move.cases_tables {s t : State} (h : Move s t) : TableMove s t ∨ t.tables = s.tables := by
  cases h with
  | table h => exact .inl h
  | exchange n => exact .inr (s.beginExchange_tables n)
  | reserves => exact .inr (by simp [State.tables])
  | endsWrite n i eraseFirst retry left v _ =>
    exact .inr (State.tables_of_storeOnly (s.endWrite_storeOnly n i retry v))
  | endsMark n i left v _ => exact .inr (State.tables_of_storeOnly (s.endMark_storeOnly n i v))
  | endsErase i left v _ => exact .inr (State.tables_of_storeOnly (s.endErase_storeOnly i v))
  | endsReservation l left v _ =>
    exact .inr (State.tables_of_storeOnly (s.endReservation_storeOnly l v))
  | endsSave c left v _ => exact .inr (State.tables_of_storeOnly (s.endSave_storeOnly c v))
  | scans aged _ => exact .inr (s.endScan_tables aged)
  | time | pay | site | meas | factor | misses | answers | stores | round | row | binding | park
  | halts | settles | releases | saves => exact .inr rfl

/-- A property of the tables alone that every move of the tables keeps is kept by every move. -/
theorem Move.keeps_of_tables {P : State → Prop} (hP : ∀ s t, t.tables = s.tables → P s → P t)
    (htable : ∀ s t, P s → TableMove s t → P t) (s t : State) (hs : P s) (h : Move s t) : P t := by
  obtain h | h := h.cases_tables
  · exact htable s t hs h
  · exact hP s t h hs

end Sys2Proof.Machine
end

section
/-! SUPPORT. The session slots and the allotment entries after each move of the tables: one lemma for
each, and how a session's record changes. -/

namespace Sys2Proof.Machine
open Sys2Proof

/-! ### Void, authorise, open -/

theorem State.void_slot {s : State} {p : Pedestal} {x : Session} (hx : s.session p = some x)
    (refused : Bool) (q : Pedestal) :
    (s.void p refused).slot q = if q = p then
      { s.slot p with session := none, refused := refused, lastEnded := x.number } else s.slot q := by
  have hslots : (s.void p refused).account.slots = (s.putSlot p
      { s.slot p with session := none, refused := refused, lastEnded := x.number }).account.slots := by
    rw [State.void_eq hx, State.reportCount_account]
    rfl
  rw [State.slot_congr hslots, State.slot_putSlot]

theorem State.void_authQueue {s : State} {p : Pedestal} {x : Session} (hx : s.session p = some x)
    (refused : Bool) :
    (s.void p refused).account.authQueue = s.account.authQueue.filter fun q => decide (q ≠ p) := by
  rw [State.void_eq hx, State.reportCount_account]

theorem State.void_openCount {s : State} {p : Pedestal} {x : Session} (hx : s.session p = some x)
    (refused : Bool) : (s.void p refused).park.openCount = (s.void p refused).occupied := by
  rw [State.void_eq hx, State.reportCount_openCount, State.occupied_reportCount]

theorem State.void_session {s : State} {p : Pedestal} {x : Session} (hx : s.session p = some x)
    (refused : Bool) (q : Pedestal) :
    (s.void p refused).session q = if q = p then none else s.session q := by
  rw [State.session, State.void_slot hx]
  split <;> rfl

theorem State.close_session {s : State} {p : Pedestal} {x : Session} (hx : s.session p = some x)
    (reason : CloseReason) (refused : Bool) (q : Pedestal) :
    (s.close p reason refused).session q = if q = p then none else s.session q := by
  rw [State.session, State.close_slot hx]
  split <;> rfl

theorem State.authoriseSession_session (s : State) (p q : Pedestal) (x : Session) (hold : Nat)
    (ref : Word32) :
    (s.authoriseSession p x hold ref).session q = if q = p then
      some (x.authorise hold ref s.clockNow (decide ((s.loopEntry p).link = .lost)))
    else s.session q :=
  State.session_putSession s p q _

theorem State.openSession_slot (s : State) (p q : Pedestal) (reading : Nat) (stamp : Word32) :
    (s.openSession p reading stamp).slot q = if q = p then
      { s.slot p with session := some (s.newSession p reading stamp), unavailable := false }
    else s.slot q := by
  simp only [State.openSession, State.slot_testReservation, State.slot_reportCount]
  exact State.slot_putSlot s p q _

theorem State.openSession_session (s : State) (p q : Pedestal) (reading : Nat) (stamp : Word32) :
    (s.openSession p reading stamp).session q
      = if q = p then some (s.newSession p reading stamp) else s.session q := by
  rw [State.session, State.openSession_slot]
  split <;> rfl

theorem State.openSession_account (s : State) (p : Pedestal) (reading : Nat) (stamp : Word32) :
    (s.openSession p reading stamp).account = { s.account with
      slots := (s.openSession p reading stamp).account.slots
      nextNumber := s.account.nextNumber + 1, authQueue := s.account.authQueue ++ [p] } := by
  simp only [State.openSession, State.testReservation_account, State.reportCount_account]
  rfl

theorem State.openSession_openCount (s : State) (p : Pedestal) (reading : Nat) (stamp : Word32) :
    (s.openSession p reading stamp).park.openCount = (s.openSession p reading stamp).occupied := by
  simp only [State.openSession, State.testReservation_park, State.reportCount_openCount,
    State.occupied_testReservation, State.occupied_reportCount]

/-! ### STOPPING and PARKED -/

theorem State.enterStopping_eq {s : State} {p : Pedestal} {x : Session} (hx : s.session p = some x)
    (reason : StopReason) :
    s.enterStopping p reason =
      if reason = .hold then ((s.putSession p (x.toStopping reason)).endTracking p).raisePay .holdStop
      else (s.putSession p (x.toStopping reason)).endTracking p := by
  simp only [State.enterStopping, hx]

theorem State.enterStopping_session {s : State} {p : Pedestal} {x : Session}
    (hx : s.session p = some x) (reason : StopReason) (q : Pedestal) :
    (s.enterStopping p reason).session q
      = if q = p then some (x.toStopping reason) else s.session q := by
  rw [State.enterStopping_eq hx, ← State.session_putSession]
  split <;> simp

theorem State.enterStopping_entry {s : State} {p : Pedestal} {x : Session}
    (hx : s.session p = some x) (reason : StopReason) (q : Pedestal) :
    (s.enterStopping p reason).entry q
      = if q = p then (s.entry p).endTracking else s.entry q := by
  rw [State.enterStopping_eq hx]
  split <;> simp [State.endTracking, State.entry_putEntry]

theorem State.enterStopping_authQueue {s : State} {p : Pedestal} {x : Session}
    (hx : s.session p = some x) (reason : StopReason) :
    (s.enterStopping p reason).account.authQueue = s.account.authQueue := by
  rw [State.enterStopping_eq hx]
  split <;> simp

theorem State.enterStopping_parameters {s : State} {p : Pedestal} {x : Session}
    (hx : s.session p = some x) (reason : StopReason) :
    (s.enterStopping p reason).allot.parameters = s.allot.parameters := by
  rw [State.enterStopping_eq hx]
  split <;> simp

theorem State.enterParked_eq {s : State} {p : Pedestal} {x : Session} (hx : s.session p = some x)
    (by_ : ParkedBy) :
    s.enterParked p by_ = (s.putSession p (x.toParked by_)).endTracking p := by
  simp only [State.enterParked, hx]

theorem State.enterParked_session {s : State} {p : Pedestal} {x : Session}
    (hx : s.session p = some x) (by_ : ParkedBy) (q : Pedestal) :
    (s.enterParked p by_).session q = if q = p then some (x.toParked by_) else s.session q := by
  rw [State.enterParked_eq hx, State.session_endTracking, State.session_putSession]

theorem State.enterParked_entry {s : State} {p : Pedestal} {x : Session}
    (hx : s.session p = some x) (by_ : ParkedBy) (q : Pedestal) :
    (s.enterParked p by_).entry q = if q = p then (s.entry p).endTracking else s.entry q := by
  rw [State.enterParked_eq hx]
  simp [State.endTracking, State.entry_putEntry]

/-! ### The record of an open session -/

/-- A session's own changes neither make it an AUTHORISING one nor end its being one. -/
theorem SessionMove.authorising_iff {x y : Session} (h : SessionMove x y) :
    y.state = .authorising ↔ x.state = .authorising := by
  cases h with
  | read => exact Iff.rfl
  | bill peak reading stamp hstate =>
    refine ⟨fun hy => ?_, fun hx => absurd hx hstate⟩
    unfold Session.billReading at hy
    dsimp only at hy
    split at hy
    · cases hy
    · exact hy
  | lateStop => exact Iff.rfl
  | revive hstate =>
    rw [hstate]
    refine iff_of_false ?_ nofun
    show ¬ (if 0 < x.billed then SessionState.delivering else .ready) = .authorising
    split <;> exact nofun
  | link l =>
    unfold Session.linkChanged
    repeat' split
    all_goals exact Iff.rfl
  | minute =>
    unfold Session.endMinute
    dsimp only
    split <;> exact Iff.rfl
  | bind row t now => rw [Session.bind_state]
  | ignoreStop => exact Iff.rfl

/-- A session's own changes leave its windows alone. -/
theorem SessionMove.windows {x y : Session} (h : SessionMove x y) :
    y.authorisationWindow = x.authorisationWindow ∧ y.stopWindow = x.stopWindow := by
  cases h with
  | read | bill | lateStop | revive | ignoreStop => exact ⟨rfl, rfl⟩
  | link l =>
    unfold Session.linkChanged
    repeat' split
    all_goals exact ⟨rfl, rfl⟩
  | minute =>
    unfold Session.endMinute
    dsimp only
    split <;> exact ⟨rfl, rfl⟩
  | bind row t now =>
    unfold Session.bind Session.rebind
    repeat' split
    all_goals exact ⟨rfl, rfl⟩

/-- R143: the link-loss timer of an AUTHORISING session is not started. -/
theorem SessionMove.linkLossTimer {x y : Session} (h : SessionMove x y)
    (hstate : x.state = .authorising) (hx : x.linkLossTimer = none) : y.linkLossTimer = none := by
  cases h with
  | read | bill | lateStop | revive | ignoreStop => exact hx
  | link l =>
    unfold Session.linkChanged
    rw [hstate]
    cases l
    · rfl
    · rfl
    · exact hx
  | minute hparked => rw [hparked] at hstate; cases hstate
  | bind row t now =>
    unfold Session.bind
    rw [hstate]
    exact hx

/-- A session's own changes keep a DELIVERING session so, and leave a STOPPING one there. -/
theorem SessionMove.delivering {x y : Session} (h : SessionMove x y) :
    (x.state = .delivering → y.state = .delivering) ∧ (x.state = .stopping → y.state = .stopping) := by
  cases h with
  | read | lateStop | ignoreStop => exact ⟨id, id⟩
  | bill peak reading stamp hstate =>
    unfold Session.billReading
    dsimp only
    split
    · exact ⟨fun _ => rfl, fun hx => by simp_all⟩
    · exact ⟨id, id⟩
  | revive hstate =>
    rw [hstate]
    exact ⟨nofun, nofun⟩
  | link l =>
    unfold Session.linkChanged
    repeat' split
    all_goals exact ⟨id, id⟩
  | minute =>
    unfold Session.endMinute
    dsimp only
    split <;> exact ⟨id, id⟩
  | bind row t now =>
    rw [Session.bind_state]
    exact ⟨id, id⟩

end Sys2Proof.Machine
end

section
/-! SUPPORT. The step law of the open count and the authorisation queue (O12). -/

namespace Sys2Proof.Machine
open Sys2Proof

/-- R9: what TableLaw asks of one pedestal: its place in the authorisation queue and its session. -/
def Tabled (queued : Prop) (o : Option Session) : Prop :=
  (queued ↔ ∃ x, o = some x ∧ x.state = .authorising)
    ∧ ∀ x, o = some x → x.state = .authorising → x.stopWindow = none ∧ x.linkLossTimer = none

theorem tableLaw_iff {s : State} : TableLaw s ↔ s.park.openCount = s.occupied
    ∧ s.account.authQueue.Nodup ∧ ∀ p, Tabled (p ∈ s.account.authQueue) (s.session p) :=
  ⟨fun ⟨hcount, hnodup, hqueue, htimers⟩ => ⟨hcount, hnodup, fun p => ⟨hqueue p, htimers p⟩⟩,
    fun ⟨hcount, hnodup, htabled⟩ =>
      ⟨hcount, hnodup, fun p => (htabled p).1, fun p => (htabled p).2⟩⟩

theorem tabled_free {queued : Prop} (h : ¬ queued) : Tabled queued none := by
  simp [Tabled, h]

theorem tabled_some_iff {queued : Prop} {x : Session} : Tabled queued (some x) ↔
    (queued ↔ x.state = .authorising)
      ∧ (x.state = .authorising → x.stopWindow = none ∧ x.linkLossTimer = none) := by
  simp [Tabled]

theorem TableLaw.of_tables {s t : State} (h : t.tables = s.tables) (hs : TableLaw s) :
    TableLaw t := by
  rw [tableLaw_iff] at hs ⊢
  simpa only [State.tables_openCount h, State.tables_occupied h, State.tables_authQueue h,
    State.tables_session h] using hs

/-- A change of one pedestal's session and of its place in the queue. -/
theorem TableLaw.change {s t : State} (p : Pedestal) (hs : TableLaw s)
    (hother : ∀ q, q ≠ p → t.session q = s.session q
      ∧ (q ∈ t.account.authQueue ↔ q ∈ s.account.authQueue))
    (hcount : t.park.openCount = t.occupied) (hnodup : t.account.authQueue.Nodup)
    (hp : Tabled (p ∈ t.account.authQueue) (t.session p)) : TableLaw t := by
  obtain ⟨-, -, htabled⟩ := tableLaw_iff.mp hs
  refine tableLaw_iff.mpr ⟨hcount, hnodup, fun q => ?_⟩
  by_cases hq : q = p
  · rw [hq]
    exact hp
  · obtain ⟨hsession, hqueue⟩ := hother q hq
    rw [hsession, hqueue]
    exact htabled q

/-- A change of one open session's record. -/
theorem TableLaw.update {s t : State} {p : Pedestal} {x y : Session} (hs : TableLaw s)
    (hx : s.session p = some x)
    (hsession : ∀ q, t.session q = if q = p then some y else s.session q)
    (hqueue : t.account.authQueue = s.account.authQueue)
    (hcount : t.park.openCount = s.park.openCount)
    (hstate : y.state = .authorising ↔ x.state = .authorising)
    (htimers : x.state = .authorising → x.stopWindow = none → x.linkLossTimer = none →
      y.stopWindow = none ∧ y.linkLossTimer = none) : TableLaw t := by
  obtain ⟨hcount', hnodup, htabled⟩ := tableLaw_iff.mp hs
  have hp := htabled p
  rw [hx, tabled_some_iff] at hp
  obtain ⟨hqueued, hnone⟩ := hp
  have hoccupied : t.occupied = s.occupied := State.occupied_congr fun q => by
    rw [hsession]
    split
    · next hq =>
      rw [hq, hx]
      rfl
    · rfl
  refine hs.change p (fun q hq => ⟨?_, by rw [hqueue]⟩) ?_ ?_ ?_
  · rw [hsession, if_neg hq]
  · rw [hcount, hcount', hoccupied]
  · rwa [hqueue]
  · rw [hsession, if_pos rfl, hqueue, tabled_some_iff, hstate]
    exact ⟨hqueued, fun h => htimers h (hnone h).1 (hnone h).2⟩

/-- R14, R23: an end of a session, whose pedestal leaves the queue if it stood there. -/
theorem TableLaw.ends {s t : State} {p : Pedestal} (hs : TableLaw s)
    (hsession : ∀ q, t.session q = if q = p then none else s.session q)
    (hqueue : t.account.authQueue = s.account.authQueue.filter fun q => decide (q ≠ p))
    (hcount : t.park.openCount = t.occupied) : TableLaw t := by
  obtain ⟨-, hnodup, -⟩ := tableLaw_iff.mp hs
  refine hs.change p (fun q hq => ⟨?_, ?_⟩) hcount ?_ ?_
  · rw [hsession, if_neg hq]
  · simp [hqueue, hq]
  · rw [hqueue]
    exact hnodup.filter _
  · rw [hsession, if_pos rfl]
    exact tabled_free (by simp [hqueue])

/-- R9: a session that is not in AUTHORISING has no place in the queue. -/
theorem TableLaw.filter_eq {s : State} {p : Pedestal} {x : Session} (hs : TableLaw s)
    (hx : s.session p = some x) (hstate : x.state ≠ .authorising) :
    s.account.authQueue.filter (fun q => decide (q ≠ p)) = s.account.authQueue := by
  obtain ⟨-, -, htabled⟩ := tableLaw_iff.mp hs
  have hp := htabled p
  rw [hx, tabled_some_iff] at hp
  refine List.filter_eq_self.mpr fun q hq => decide_eq_true fun heq => ?_
  exact hstate (hp.1.mp (heq ▸ hq))

/-- R12, R17, R21: of an AUTHORISING session neither the stop window nor the link-loss timer runs. -/
theorem TableLaw.not_authorising {s : State} {p : Pedestal} {x : Session} (hs : TableLaw s)
    (hx : s.session p = some x)
    (h : x.state ≠ .authorising ∨ x.stopWindow.isSome = true ∨ x.linkLossTimer.isSome = true) :
    x.state ≠ .authorising := by
  intro hstate
  obtain ⟨-, -, -, htimers⟩ := hs
  obtain ⟨hstop, hlink⟩ := htimers p x hx hstate
  simp [hstate, hstop, hlink] at h

theorem TableLaw.tableMove {s t : State} (hs : TableLaw s) (h : TableMove s t) : TableLaw t := by
  obtain ⟨hcount, hnodup, htabled⟩ := tableLaw_iff.mp hs
  cases h with
  | advance n =>
    have hcount' : (s.advance n).park.openCount = (s.advance n).occupied := by
      rw [State.advance_park, State.advance_occupied, hcount]
    have hqueue := State.advance_account_authQueue s n
    refine tableLaw_iff.mpr ⟨hcount', by rwa [hqueue], fun p => ?_⟩
    rw [hqueue]
    have hp := htabled p
    rw [State.advance_session]
    cases hx : s.session p with
    | none => rwa [hx] at hp
    | some x =>
      rw [hx, tabled_some_iff] at hp
      refine tabled_some_iff.mpr ⟨hp.1, fun hstate => ?_⟩
      obtain ⟨hstop, hlink⟩ := hp.2 hstate
      simp [Session.advance, runDown, hstop, hlink]
  | session p x y hx hxy =>
    exact hs.update hx (fun q => State.session_putSession s p q y) rfl rfl hxy.authorising_iff
      fun hstate hstop hlink => ⟨hxy.windows.2.trans hstop, hxy.linkLossTimer hstate hlink⟩
  | flags p refused unavailable hfree =>
    have hsame (q : Pedestal) : (s.putSlot p { s.slot p with
        refused := refused, unavailable := unavailable }).session q = s.session q := by
      rw [State.session_putSlot]
      split
      · next hq => rw [hq]; rfl
      · rfl
    refine tableLaw_iff.mpr ⟨?_, hnodup, fun q => ?_⟩
    · exact hcount.trans (State.occupied_congr fun q => by rw [hsame q]).symm
    · rw [hsame]
      exact htabled q
  | opens p reading stamp hfree _ =>
    have hqueue : (s.openSession p reading stamp).account.authQueue = s.account.authQueue ++ [p] := by
      rw [State.openSession_account]
    have hout : p ∉ s.account.authQueue := fun hp => by
      obtain ⟨x, hx, -⟩ := (htabled p).1.mp hp
      rw [hfree] at hx
      cases hx
    refine hs.change p (fun q hq => ⟨?_, ?_⟩) (s.openSession_openCount p reading stamp) ?_ ?_
    · rw [State.openSession_session, if_neg hq]
    · simp [hqueue, hq]
    · rw [hqueue]
      exact hnodup.append (List.nodup_singleton p) (List.disjoint_singleton.mpr hout)
    · rw [State.openSession_session, if_pos rfl, tabled_some_iff, hqueue]
      exact ⟨iff_of_true (by simp) rfl, fun _ => ⟨rfl, rfl⟩⟩
  | voids p refused x hx _ =>
    exact hs.ends (State.void_session hx refused) (State.void_authQueue hx refused)
      (State.void_openCount hx refused)
  | closes p reason refused x hx hguard =>
    have hstate := hs.not_authorising hx (hguard.imp_right .inr)
    refine hs.ends (State.close_session hx reason refused) ?_ (State.close_openCount hx reason refused)
    rw [hs.filter_eq hx hstate, State.close_account hx]
  | authorises p x hold ref hx hstate =>
    have hsession := fun q => State.authoriseSession_session s p q x hold ref
    refine hs.change p (fun q hq => ⟨?_, ?_⟩) ?_ (hnodup.filter _) ?_
    · rw [hsession, if_neg hq]
    · simp [State.authoriseSession, hq]
    · refine hcount.trans (State.occupied_congr fun q => ?_).symm
      rw [hsession]
      split
      · next hq =>
        rw [hq, hx]
        rfl
      · rfl
    · rw [hsession, if_pos rfl, tabled_some_iff]
      exact ⟨iff_of_false (by simp [State.authoriseSession]) nofun, nofun⟩
  | stops p reason x hx hstate =>
    exact hs.update hx (State.enterStopping_session hx reason)
      (State.enterStopping_authQueue hx reason) (by rw [State.enterStopping_park])
      (iff_of_false nofun hstate) fun h => absurd h hstate
  | parks p by_ x hx hguard =>
    have hstate := hs.not_authorising hx (hguard.imp_right .inl)
    exact hs.update hx (State.enterParked_session hx by_)
      (by rw [State.enterParked_eq hx]; rfl) (by rw [State.enterParked_park])
      (iff_of_false nofun hstate) fun h => absurd h hstate
  | resetsPeak p => exact ⟨hcount, hnodup, fun q => (htabled q).1, fun q => (htabled q).2⟩
  | tracks p draw => exact ⟨hcount, hnodup, fun q => (htabled q).1, fun q => (htabled q).2⟩
  | ramps p => exact ⟨hcount, hnodup, fun q => (htabled q).1, fun q => (htabled q).2⟩

end Sys2Proof.Machine
end

section
/-! SUPPORT. What a change of the configuration and a recompute leave of the tables, and the theorem of
the open count and the authorisation queue (O12). -/

namespace Sys2Proof.Machine
open Sys2Proof

/-! ### The restore (R177) -/

theorem State.evaluateHeld_tables (s : State) (f : Feeder) : (s.evaluateHeld f).tables = s.tables := by
  unfold State.evaluateHeld State.evaluateCode State.writeFeeder
  split
  · dsimp only
    split <;> rfl
  · rfl

theorem State.evaluateAll_tables (l : List Feeder) (s : State) :
    (l.foldl State.evaluateHeld s).tables = s.tables := by
  induction l generalizing s with
  | nil => rfl
  | cons f rest ih => exact (ih _).trans (s.evaluateHeld_tables f)

theorem State.restoreCounter_tables (s : State) : s.restoreCounter.tables = s.tables := by
  unfold State.restoreCounter
  split <;> rfl

theorem State.loadSettings_tables (s : State) (c : Settings) :
    (s.loadSettings c).tables = { s.tables with
      entries := mapCells (fun p e => { e with cfg := cell c.pedestals p }) s.allot.entries
      parameters := c.parameters } := rfl

theorem State.raiseSite_tables (s : State) (c : SiteCause) : (s.raiseSite c).tables = s.tables := rfl

/-- R129: the restore changes of the tables the configurations and the parameters alone. -/
theorem State.restored_tables (s : State) (r : RestoreReading) : ∃ c : Settings,
    (s.restored r).tables = { s.tables with
      entries := mapCells (fun p e => { e with cfg := cell c.pedestals p }) s.allot.entries
      parameters := c.parameters } := by
  unfold State.restored
  dsimp only
  rw [State.evaluateAll_tables]
  show ∃ c : Settings, (State.restoreCounter _).tables = _
  rw [State.restoreCounter_tables]
  unfold State.restoreSettings
  split
  · next c _ => exact ⟨c, State.loadSettings_tables _ c⟩
  · refine ⟨Settings.default, ?_⟩
    rw [State.raiseSite_tables, State.loadSettings_tables]
    rfl

/-! ### Configurations and resets -/

theorem State.account_of_tables {t : State} {x : Tables} (h : t.tables = x) :
    t.account.slots = x.slots ∧ t.account.authQueue = x.authQueue
      ∧ t.park.openCount = x.openCount := by
  rw [← h]
  exact ⟨rfl, rfl, rfl⟩

/-- R28, R129: a configuration leaves the session table, its queue and its count alone. -/
theorem Configured.slots {s t : State} (h : Configured s t) :
    t.account.slots = s.account.slots ∧ t.account.authQueue = s.account.authQueue
      ∧ t.park.openCount = s.park.openCount := by
  cases h with
  | siteCeiling c => exact ⟨rfl, rfl, rfl⟩
  | feeder f c =>
    unfold State.writeFeeder
    dsimp only
    split <;> exact ⟨rfl, rfl, rfl⟩
  | pedestal p c _ =>
    unfold State.configurePedestal
    dsimp only
    split <;> exact ⟨rfl, rfl, rfl⟩
  | parameters q startQuiesced => exact ⟨rfl, rfl, rfl⟩
  | restored r _ =>
    obtain ⟨c, hc⟩ := s.restored_tables r
    exact State.account_of_tables hc

theorem State.assertReset_tables (s : State) (cut : CutPoint) :
    (s.assertReset cut).tables = s.tables := rfl

/-! ### The theorem -/

theorem TableLaw.congr {s t : State} (hs : TableLaw s)
    (h : t.account.slots = s.account.slots ∧ t.account.authQueue = s.account.authQueue
      ∧ t.park.openCount = s.park.openCount) : TableLaw t := by
  obtain ⟨hslots, hqueue, hcount⟩ := h
  have hsession := State.session_congr hslots
  have hoccupied : t.occupied = s.occupied := State.occupied_congr fun p => by rw [hsession p]
  rw [tableLaw_iff] at hs ⊢
  simpa only [hsession, hqueue, hcount, hoccupied] using hs

theorem TableLaw.effect {s t : State} (hs : TableLaw s) (h : Effect s t) : TableLaw t := by
  refine h.keeps (P := TableLaw) ?_ ?_ ?_ ?_ ?_ afterReset_tableLaw hs
  · exact Move.keeps_of_tables (fun _ _ htables h => h.of_tables htables) fun _ _ h hm => h.tableMove hm
  · exact fun u hu => (hs.congr hu.slots).congr ⟨rfl, rfl, rfl⟩
  · exact fun s hs => hs.congr ⟨rfl, rfl, rfl⟩
  · exact fun s hs => hs.of_tables s.finish_tables
  · exact fun cut => hs.of_tables (s.assertReset_tables cut)

/-- Settles O12, move by move: every event is made of moves, each of which changes one session and the
queue and the count with it. -/
theorem stepKeepsTableLaw : Obligations.StepKeepsTableLaw := by
  unfold Obligations.StepKeepsTableLaw
  intro s t hs hstep
  exact step_keeps (P := TableLaw) (fun _ _ h => h.congr ⟨rfl, rfl, rfl⟩)
    (fun s h => h.tableMove (.advance s 1)) (fun _ _ h heffect => h.effect heffect) hs hstep

end Sys2Proof.Machine
end

section
/-! SUPPORT. How a move changes an allotment entry, and what a recompute leaves at a pedestal that does
not count for power (O8's law of counting). -/

namespace Sys2Proof.Machine
open Sys2Proof

/-! ### A pedestal without demand has no share (R34 to R38) -/

theorem mem_insertBid {b x : Bid} {l : List Bid} : b ∈ insertBid x l ↔ b = x ∨ b ∈ l := by
  induction l with
  | nil => simp [insertBid]
  | cons y rest ih =>
    unfold insertBid
    split
    · simp
    · simp only [List.mem_cons, ih]
      tauto

theorem mem_insertAll {b : Bid} {l : List Bid} : b ∈ l.foldr insertBid [] ↔ b ∈ l := by
  induction l with
  | nil => rfl
  | cons x rest ih => rw [List.foldr_cons, mem_insertBid, ih, List.mem_cons]

/-- R34: the pedestals of the list have a demand. -/
theorem State.demand_of_mem_bidList {s : State} {p : Pedestal}
    (h : p ∈ s.bidList.map Bid.pedestal) : 0 < s.demandOf p := by
  obtain ⟨b, hb, rfl⟩ := List.mem_map.mp h
  rw [State.bidList, mem_insertAll, List.mem_filter, List.mem_map] at hb
  obtain ⟨⟨q, -, rfl⟩, hdemand⟩ := hb
  exact of_decide_eq_true hdemand

theorem admission_pedestals (m : Nat) (r : Room) (l : List Bid) :
    ((admission m r l).2.map Bid.pedestal).Sublist (l.map Bid.pedestal) := by
  induction l generalizing r with
  | nil => exact .slnil
  | cons b rest ih =>
    unfold admission
    split
    · exact (ih _).cons_cons _
    · exact (ih _).cons _

theorem shareRound_pedestals (start : Room) (share : Nat) (r : Room) (l : List Bid) :
    (shareRound start share r l).2.map Bid.pedestal = l.map Bid.pedestal := by
  induction l generalizing r with
  | nil => rfl
  | cons b rest ih => simp [shareRound, ih]

theorem shareClass_pedestals (fuel : Nat) (r : Room) (l : List Bid) :
    (shareClass fuel r l).2.map Bid.pedestal = l.map Bid.pedestal := by
  induction fuel generalizing r l with
  | zero => rfl
  | succ fuel ih =>
    unfold shareClass
    dsimp only
    split
    · rfl
    · rw [ih, shareRound_pedestals]

theorem shareClasses_pedestals (classes : List (Fin 4)) (r : Room) (l : List Bid) :
    (shareClasses classes r l).map Bid.pedestal ⊆ l.map Bid.pedestal := by
  induction classes generalizing r with
  | nil => exact List.nil_subset _
  | cons c rest ih =>
    simp only [shareClasses, List.map_append, shareClass_pedestals]
    exact List.append_subset.mpr ⟨List.map_subset _ (List.filter_subset_self _), ih _⟩

theorem shareOf_eq_none {p : Pedestal} {l : List Bid} (h : p ∉ l.map Bid.pedestal) :
    shareOf p l = none := by
  induction l with
  | nil => rfl
  | cons b rest ih =>
    rw [List.map_cons, List.mem_cons, not_or] at h
    rw [shareOf, if_neg (Ne.symm h.1), ih h.2]

theorem State.shareOf_of_demand_eq_zero {s : State} {p : Pedestal} (h : s.demandOf p = 0) :
    shareOf p s.allotted = none := by
  refine shareOf_eq_none fun hp => ?_
  have hlisted := (admission_pedestals _ _ _).subset (shareClasses_pedestals _ _ _ hp)
  exact (State.demand_of_mem_bidList hlisted).ne' h

/-! ### The law of counting after a recompute (R38, R39) -/

theorem State.entry_recompute_eq (s : State) (p : Pedestal) :
    s.recompute.entry p = AllotEntry.settleTarget s.allot.parameters (s.demandOf p)
      (shareOf p s.allotted) (s.entry p) :=
  cell_mapCells _ _ _

/-- R48: with a target of 0 the grant is 0 at once and the ramp timer stops. -/
theorem AllotEntry.settleTarget_none (q : Parameters) (demand : Nat) (e : AllotEntry) :
    AllotEntry.settleTarget q demand none e = { e with
      demand := demand, admitted := false, target := 0, grant := 0, rampTimer := none } := by
  simp [AllotEntry.settleTarget, AllotEntry.follow, AllotEntry.writeGrant]

theorem State.demandOf_eq_zero {s : State} {p : Pedestal}
    (h : s.countsForPower p = false ∨ (s.loopEntry p).link = .lost) : s.demandOf p = 0 := by
  unfold State.demandOf
  dsimp only
  rw [if_neg]
  obtain h | h := h <;> simp [h]

/-- R39: where nothing counts, a recompute leaves demand, target and grant at 0. -/
theorem State.entry_recompute_of_not_counting {s : State} {p : Pedestal}
    (h : s.countsForPower p = false ∨ (s.loopEntry p).link = .lost) :
    s.recompute.entry p = { s.entry p with
      demand := 0, admitted := false, target := 0, grant := 0, rampTimer := none } := by
  have hdemand := State.demandOf_eq_zero h
  rw [State.entry_recompute_eq, State.shareOf_of_demand_eq_zero hdemand, hdemand,
    AllotEntry.settleTarget_none]

theorem State.recompute_countingLaw (s : State) : CountingLaw s.recompute := fun p hp => by
  rw [State.countsForPower_recompute, State.loopEntry_recompute] at hp
  rw [State.entry_recompute_of_not_counting hp]
  exact ⟨rfl, rfl⟩

theorem CountingLaw.of_tables {s t : State} (h : t.tables = s.tables)
    (hlink : ∀ p, (t.loopEntry p).link = (s.loopEntry p).link) (hs : CountingLaw s) :
    CountingLaw t := fun p hp => by
  rw [State.countsForPower_congr (State.tables_session h p), hlink] at hp
  rw [State.tables_entry h]
  exact hs p hp

/-! ### A move's change of an entry -/

/-- How an allotment entry changes without a recompute or a configuration: its timer runs, tracking ends,
the peak is reset (R56), a draw is offered (R59 to R61), or the grant ramps (R52). -/
inductive EntryMove (q : Parameters) (x : AllotEntry) : AllotEntry → Prop
  | same : EntryMove q x x
  | advance (n : Nat) : EntryMove q x { x with rampTimer := runDown n x.rampTimer }
  | endTracking : EntryMove q x x.endTracking
  | resetPeak : EntryMove q x x.resetPeak
  | offerDraw (delivering : Bool) (draw : Nat) : EntryMove q x (x.offerDraw q delivering draw)
  | rampStep : EntryMove q x (AllotEntry.rampStep q x)

theorem EntryMove.of_ite {q : Parameters} {x y z : AllotEntry} {c : Prop} [Decidable c]
    (hy : c → EntryMove q x y) (hz : ¬ c → EntryMove q x z) : EntryMove q x (if c then y else z) := by
  split
  · next h => exact hy h
  · next h => exact hz h

theorem TableMove.entry {s t : State} (h : TableMove s t) (p : Pedestal) :
    EntryMove s.allot.parameters (s.entry p) (t.entry p) := by
  have hchanged {r : Pedestal} {e : AllotEntry}
      (he : EntryMove s.allot.parameters (s.entry r) e) :
      EntryMove s.allot.parameters (s.entry p) (if p = r then e else s.entry p) :=
    .of_ite (fun hp => hp ▸ he) fun _ => .same
  cases h with
  | advance n =>
    rw [State.advance_entry]
    exact .advance n
  | session => rw [State.entry_putSession]; exact .same
  | flags => rw [State.entry_putSlot]; exact .same
  | opens => rw [State.entry_openSession]; exact .same
  | voids => rw [State.entry_void]; exact .same
  | authorises => exact .same
  | closes r reason refused x hx _ =>
    rw [State.close_entry hx]
    exact hchanged .endTracking
  | stops r reason x hx _ =>
    rw [State.enterStopping_entry hx]
    exact hchanged .endTracking
  | parks r by_ x hx _ =>
    rw [State.enterParked_entry hx]
    exact hchanged .endTracking
  | resetsPeak r =>
    rw [State.entry_putEntry]
    exact hchanged .resetPeak
  | tracks r draw =>
    unfold State.trackDraw
    rw [State.entry_putEntry]
    exact hchanged (.offerDraw _ draw)
  | ramps r =>
    rw [State.entry_putEntry]
    exact hchanged .rampStep

/-- No move changes a target (R38), and none raises a grant above a target of 0 (R52). -/
theorem EntryMove.held {q : Parameters} {x y : AllotEntry} (h : EntryMove q x y) :
    y.target = x.target ∧ (x.target = 0 → x.grant = 0 → y.grant = 0) := by
  cases h with
  | same | advance | resetPeak => exact ⟨rfl, fun _ => id⟩
  | endTracking => exact ⟨AllotEntry.endTracking_target x, fun _ => by simp⟩
  | offerDraw delivering draw =>
    unfold AllotEntry.offerDraw
    repeat' split
    all_goals exact ⟨rfl, fun _ => id⟩
  | rampStep =>
    refine ⟨rfl, fun htarget _ => ?_⟩
    show min x.target _ = 0
    rw [htarget, Nat.zero_min]

end Sys2Proof.Machine
end

section
/-! SUPPORT. The step laws of counting and of draw tracking (O8). -/

namespace Sys2Proof.Machine
open Sys2Proof

/-! ### The law of counting -/

/-- From `s` to `t` no target changed, and no grant rose above a target of 0. -/
def State.holdsTargets (s t : State) : Prop :=
  ∀ p, (t.entry p).target = (s.entry p).target
    ∧ ((s.entry p).target = 0 → (s.entry p).grant = 0 → (t.entry p).grant = 0)

theorem Move.holdsTargets {s t : State} (h : Move s t) : s.holdsTargets t := fun p => by
  obtain h | h := h.cases_tables
  · exact (h.entry p).held
  · rw [State.tables_entry h]
    exact ⟨rfl, fun _ => id⟩

theorem Moves.holdsTargets {s t : State} (h : Moves s t) : s.holdsTargets t := by
  induction h with
  | refl => exact fun p => ⟨rfl, fun _ => id⟩
  | tail _ hm ih =>
    intro p
    obtain ⟨htarget, hgrant⟩ := ih p
    obtain ⟨htarget', hgrant'⟩ := hm.holdsTargets p
    exact ⟨htarget'.trans htarget, fun h0 h1 => hgrant' (htarget.trans h0) (hgrant h0 h1)⟩

/-- R29: without a cause for a recompute the pedestals count as before, over links as before. -/
theorem pedestalCause_of_recomputeCause {s t : State} (h : recomputeCause s t = false)
    (p : Pedestal) :
    t.countsForPower p = s.countsForPower p ∧ (t.loopEntry p).link = (s.loopEntry p).link := by
  simp only [recomputeCause, Bool.or_eq_false_iff, List.any_eq_false] at h
  have hp := h.1 p (mem_pedestals p)
  simp only [pedestalCause, Bool.or_eq_true, bne_iff_ne, ne_eq, not_or, not_not] at hp
  exact ⟨hp.1.1.2.symm, hp.1.2.symm⟩

theorem CountingLaw.event {s v : State} (hs : CountingLaw s) (h : Event s v) : CountingLaw v := by
  cases h with
  | plain u hmoves =>
    unfold recomputeAfter
    split
    · exact u.recompute_countingLaw
    · next hcause =>
      intro p hp
      obtain ⟨hcounts, hlink⟩ := pedestalCause_of_recomputeCause (by simpa using hcause) p
      rw [hcounts, hlink] at hp
      obtain ⟨htarget, hgrant⟩ := hs p hp
      obtain ⟨hsame, hheld⟩ := hmoves.holdsTargets p
      exact ⟨hsame.trans htarget, hheld htarget hgrant⟩
  | forced u _ => exact u.recompute_countingLaw
  | configured u _ => exact u.recompute_countingLaw

/-- What follows an event's recompute leaves the tables and the loop entries alone. -/
theorem After.same {v w : State} (h : After v w) :
    w.tables = v.tables ∧ w.loop.entries = v.loop.entries := by
  cases h with
  | nothing => exact ⟨rfl, rfl⟩
  | exchange n =>
    obtain ⟨x, tx, driver, hbegin⟩ := v.beginExchange_eq n
    rw [hbegin]
    exact ⟨rfl, rfl⟩
  | site x => exact ⟨rfl, rfl⟩

theorem CountingLaw.pending {s : State} (hs : CountingLaw s) (q : List Instr) :
    CountingLaw { s with pending := q } :=
  hs.of_tables rfl fun _ => rfl

theorem CountingLaw.finish {s : State} (hs : CountingLaw s) : CountingLaw s.finish :=
  hs.of_tables s.finish_tables fun p => by rw [State.loopEntry_finish]

theorem CountingLaw.effect {s t : State} (hs : CountingLaw s) (h : Effect s t) : CountingLaw t := by
  cases h with
  | ignored => exact hs
  | asserted cut => exact hs.of_tables (s.assertReset_tables cut) fun _ => rfl
  | restarted => exact afterReset_countingLaw _ _ _
  | restartedHere => exact (afterReset_countingLaw _ _ _).finish
  | event v w _ hevent hafter =>
    obtain ⟨htables, hentries⟩ := hafter.same
    exact ((hs.event hevent).of_tables htables fun p => by
      rw [State.loopEntry_congr hentries]).finish

theorem CountingLaw.advance {s : State} (hs : CountingLaw s) (n : Nat) :
    CountingLaw (s.advance n) := fun p hp => by
  rw [State.advance_countsForPower, State.advance_loopEntry] at hp
  rw [State.advance_entry]
  exact hs p hp

/-! ### The law of draw tracking -/

/-- R59, R61, R63: what TrackingLaw asks of one entry. -/
def AllotEntry.trackSound (on delivering : Prop) (e : AllotEntry) : Prop :=
  e.runCount < 3 ∧ (e.tracking.isSome = true → delivering ∧ e.runCount = 0 ∧ on)

/-- R12, R17: what TrackingLaw asks of one session. -/
def Session.windowsSound (x : Session) : Prop :=
  (x.authorisationWindow.isSome = true → x.state = .authorising)
    ∧ (x.stopWindow.isSome = true → x.state = .stopping)

theorem trackingLaw_iff {s : State} : TrackingLaw s ↔
    (∀ p, (s.entry p).trackSound (s.allot.parameters.trackingOn = true) (s.delivering p = true))
      ∧ ∀ p x, s.session p = some x → x.windowsSound :=
  Iff.rfl

theorem State.delivering_congr {s t : State} {p : Pedestal} (h : t.session p = s.session p) :
    t.delivering p = s.delivering p := by
  unfold State.delivering
  rw [h]

theorem State.delivering_of_session {s : State} {p : Pedestal} {x : Session}
    (hx : s.session p = some x) : s.delivering p = decide (x.state = .delivering) := by
  simp [State.delivering, hx]

theorem State.delivering_of_free {s : State} {p : Pedestal} (hfree : s.session p = none) :
    s.delivering p = false := by
  simp [State.delivering, hfree]

/-- R61: an entry that does not track is sound at any session. -/
theorem AllotEntry.trackSound_of_none {on delivering : Prop} {e : AllotEntry}
    (hrun : e.runCount < 3) (hnone : e.tracking = none) : e.trackSound on delivering :=
  ⟨hrun, fun h => by simp [hnone] at h⟩

theorem AllotEntry.trackSound_endTracking {on delivering on' delivering' : Prop} {e : AllotEntry}
    (h : e.trackSound on delivering) : e.endTracking.trackSound on' delivering' := by
  refine AllotEntry.trackSound_of_none ?_ (AllotEntry.endTracking_tracking e)
  unfold AllotEntry.endTracking
  split
  · exact Nat.zero_lt_succ _
  · exact h.1

/-- R61: an entry at a session that is not in DELIVERING does not track. -/
theorem AllotEntry.trackSound.of_not_delivering {on delivering delivering' : Prop} {e : AllotEntry}
    (h : e.trackSound on delivering) (hnot : ¬ delivering) : e.trackSound on delivering' :=
  ⟨h.1, fun ht => absurd (h.2 ht).1 hnot⟩

/-- R58 to R61: an offered draw turns tracking on only in the mode and in DELIVERING. -/
theorem AllotEntry.trackSound_offerDraw {q : Parameters} {delivering : Bool} {e : AllotEntry}
    (h : e.trackSound (q.trackingOn = true) (delivering = true)) (draw : Nat) :
    (e.offerDraw q delivering draw).trackSound (q.trackingOn = true) (delivering = true) := by
  obtain ⟨hrun, htracking⟩ := h
  unfold AllotEntry.offerDraw
  split
  · next hoff =>
    split
    · next hentry =>
      split
      · next hlow => exact AllotEntry.trackSound_of_none hlow hoff
      · simp only [AllotEntry.meetsEntry, Bool.and_eq_true] at hentry
        obtain ⟨⟨⟨hon, hdelivering⟩, -⟩, -⟩ := hentry
        exact ⟨Nat.zero_lt_succ _, fun _ => ⟨hdelivering, rfl, hon⟩⟩
    · exact AllotEntry.trackSound_of_none (Nat.zero_lt_succ _) hoff
  · next c hc =>
    split
    · exact AllotEntry.trackSound_of_none (Nat.zero_lt_succ _) rfl
    · split
      · exact ⟨hrun, fun _ => htracking (by rw [hc]; rfl)⟩
      · exact ⟨hrun, htracking⟩

/-- A change at one pedestal. -/
theorem TrackingLaw.change {s t : State} (p : Pedestal) (hs : TrackingLaw s)
    (hsession : ∀ q, q ≠ p → t.session q = s.session q)
    (hentry : ∀ q, q ≠ p → t.entry q = s.entry q)
    (hon : t.allot.parameters = s.allot.parameters)
    (hsound : (t.entry p).trackSound (s.allot.parameters.trackingOn = true) (t.delivering p = true))
    (hwindows : ∀ x, t.session p = some x → x.windowsSound) : TrackingLaw t := by
  obtain ⟨hentries, hsessions⟩ := trackingLaw_iff.mp hs
  refine trackingLaw_iff.mpr ⟨fun q => ?_, fun q x hx => ?_⟩
  · rw [hon]
    by_cases hq : q = p
    · rw [hq]
      exact hsound
    · rw [hentry q hq, State.delivering_congr (hsession q hq)]
      exact hentries q
  · by_cases hq : q = p
    · exact hwindows x (hq ▸ hx)
    · exact hsessions q x (hsession q hq ▸ hx)

theorem TrackingLaw.of_tables {s t : State} (h : t.tables = s.tables) (hs : TrackingLaw s) :
    TrackingLaw t := by
  obtain ⟨hentries, hsessions⟩ := trackingLaw_iff.mp hs
  refine trackingLaw_iff.mpr ⟨fun q => ?_, fun q x hx => ?_⟩
  · rw [State.tables_entry h, State.tables_parameters h,
      State.delivering_congr (State.tables_session h q)]
    exact hentries q
  · exact hsessions q x (State.tables_session h q ▸ hx)

theorem State.close_parameters (s : State) (p : Pedestal) (reason : CloseReason) (refused : Bool) :
    (s.close p reason refused).allot.parameters = s.allot.parameters :=
  congrArg (·.2.2) (s.close_tables p reason refused)

theorem TrackingLaw.pending {s : State} (hs : TrackingLaw s) (q : List Instr) :
    TrackingLaw { s with pending := q } :=
  hs.of_tables rfl

/-- A session leaves the slot, or its record changes, with the end of its tracking. -/
theorem TrackingLaw.endTracking {s t : State} (p : Pedestal) (hs : TrackingLaw s)
    {o : Option Session} (hsession : ∀ q, t.session q = if q = p then o else s.session q)
    (hentry : ∀ q, t.entry q = if q = p then (s.entry p).endTracking else s.entry q)
    (hon : t.allot.parameters = s.allot.parameters)
    (hwindows : ∀ y, o = some y → y.windowsSound) : TrackingLaw t := by
  refine hs.change p (fun q hq => ?_) (fun q hq => ?_) hon ?_ fun y hy => ?_
  · rw [hsession, if_neg hq]
  · rw [hentry, if_neg hq]
  · rw [hentry, if_pos rfl]
    exact AllotEntry.trackSound_endTracking ((trackingLaw_iff.mp hs).1 p)
  · rw [hsession, if_pos rfl] at hy
    exact hwindows y hy

/-- A session that is not in DELIVERING changes. -/
theorem TrackingLaw.not_delivering {s t : State} (p : Pedestal) (hs : TrackingLaw s)
    (hnot : s.delivering p = false) {o : Option Session}
    (hsession : ∀ q, t.session q = if q = p then o else s.session q)
    (hentry : ∀ q, t.entry q = s.entry q) (hon : t.allot.parameters = s.allot.parameters)
    (hwindows : ∀ y, o = some y → y.windowsSound) : TrackingLaw t := by
  refine hs.change p (fun q hq => ?_) (fun q _ => hentry q) hon ?_ fun y hy => ?_
  · rw [hsession, if_neg hq]
  · rw [hentry]
    exact ((trackingLaw_iff.mp hs).1 p).of_not_delivering (by simp [hnot])
  · rw [hsession, if_pos rfl] at hy
    exact hwindows y hy

/-- R17: of a session that left AUTHORISING no authorisation window runs. -/
theorem Session.windowsSound.authorisation_none {x : Session} (h : x.windowsSound)
    (hstate : x.state ≠ .authorising) : x.authorisationWindow.isSome = false := by
  by_contra hsome
  exact hstate (h.1 (by simpa only [Bool.not_eq_false] using hsome))

/-- R17: of a session outside STOPPING no stop window runs. -/
theorem Session.windowsSound.stop_none {x : Session} (h : x.windowsSound)
    (hstate : x.state ≠ .stopping) : x.stopWindow.isSome = false := by
  by_contra hsome
  exact hstate (h.2 (by simpa only [Bool.not_eq_false] using hsome))

theorem SessionMove.windowsSound {x y : Session} (h : SessionMove x y) (hx : x.windowsSound) :
    y.windowsSound := by
  obtain ⟨hauth, hstop⟩ := h.windows
  refine ⟨fun hy => ?_, fun hy => ?_⟩
  · rw [hauth] at hy
    exact h.authorising_iff.mpr (hx.1 hy)
  · rw [hstop] at hy
    exact h.delivering.2 (hx.2 hy)

theorem TrackingLaw.tableMove {s t : State} (hs : TrackingLaw s) (h : TableMove s t) :
    TrackingLaw t := by
  obtain ⟨hentries, hsessions⟩ := trackingLaw_iff.mp hs
  cases h with
  | advance n =>
    refine trackingLaw_iff.mpr ⟨fun p => ?_, fun p x hx => ?_⟩
    · rw [State.advance_entry, State.advance_allot_parameters]
      have hdelivering : (s.advance n).delivering p = s.delivering p := by
        unfold State.delivering
        rw [State.advance_session]
        cases s.session p <;> rfl
      rw [hdelivering]
      exact hentries p
    · rw [State.advance_session, Option.map_eq_some_iff] at hx
      obtain ⟨y, hy, rfl⟩ := hx
      simpa [Session.windowsSound, Session.advance, runDown] using hsessions p y hy
  | session p x y hx hxy =>
    refine hs.change p (fun q hq => ?_) (fun q _ => State.entry_putSession s p y q) rfl ?_
      fun z hz => ?_
    · rw [State.session_putSession, if_neg hq]
    · obtain ⟨hrun, htracking⟩ := hentries p
      rw [State.entry_putSession, State.delivering_of_session (State.session_putSession_self s p y)]
      refine ⟨hrun, fun ht => ?_⟩
      obtain ⟨hdelivering, hzero, hon⟩ := htracking ht
      rw [State.delivering_of_session hx, decide_eq_true_iff] at hdelivering
      exact ⟨decide_eq_true (hxy.delivering.1 hdelivering), hzero, hon⟩
    · rw [State.session_putSession_self] at hz
      cases hz
      exact hxy.windowsSound (hsessions p x hx)
  | flags p refused unavailable hfree =>
    refine hs.not_delivering p (o := none) (State.delivering_of_free hfree) (fun q => ?_)
      (fun q => State.entry_putSlot s p _ q) rfl (by simp)
    rw [State.session_putSlot]
    split
    · exact hfree
    · rfl
  | opens p reading stamp hfree _ =>
    refine hs.not_delivering p (State.delivering_of_free hfree)
      (fun q => s.openSession_session p q reading stamp)
      (fun q => State.entry_openSession s p reading stamp q) (by rw [State.openSession_allot])
      fun y hy => ?_
    cases hy
    exact ⟨fun _ => rfl, nofun⟩
  | voids p refused x hx hguard =>
    have hstate : x.state = .authorising := hguard.elim id (hsessions p x hx).1
    refine hs.not_delivering p ?_ (State.void_session hx refused)
      (fun q => State.entry_void s p refused q) (by rw [State.void_allot]) (by simp)
    rw [State.delivering_of_session hx, hstate]
    rfl
  | closes p reason refused x hx _ =>
    exact hs.endTracking p (State.close_session hx reason refused)
      (State.close_entry hx reason refused) (s.close_parameters p reason refused) (by simp)
  | authorises p x hold ref hx hstate =>
    refine hs.not_delivering p ?_ (fun q => State.authoriseSession_session s p q x hold ref)
      (fun _ => rfl) rfl fun y hy => ?_
    · rw [State.delivering_of_session hx, hstate]
      rfl
    · cases hy
      have hstop := (hsessions p x hx).stop_none (by rw [hstate]; exact nofun)
      exact ⟨nofun, fun h => absurd h (by simp [Session.authorise, hstop])⟩
  | stops p reason x hx hstate =>
    refine hs.endTracking p (State.enterStopping_session hx reason)
      (State.enterStopping_entry hx reason) (State.enterStopping_parameters hx reason) fun y hy => ?_
    cases hy
    have hauth := (hsessions p x hx).authorisation_none hstate
    exact ⟨fun h => absurd h (by simp [Session.toStopping, hauth]), fun _ => rfl⟩
  | parks p by_ x hx hguard =>
    have hstate : x.state ≠ .authorising := hguard.elim id fun hstop => by
      rw [(hsessions p x hx).2 hstop]
      exact nofun
    refine hs.endTracking p (State.enterParked_session hx by_) (State.enterParked_entry hx by_)
      (by rw [State.enterParked_eq hx]; rfl) fun y hy => ?_
    cases hy
    have hauth := (hsessions p x hx).authorisation_none hstate
    exact ⟨fun h => absurd h (by simp [Session.toParked, hauth]), nofun⟩
  | resetsPeak p =>
    refine hs.change p (fun _ _ => rfl) (fun q hq => State.entry_putEntry_of_ne s _ hq) rfl ?_
      (hsessions p)
    rw [State.entry_putEntry_self]
    exact hentries p
  | tracks p draw =>
    refine hs.change p (fun _ _ => rfl) (fun q hq => State.entry_putEntry_of_ne s _ hq) rfl ?_
      (hsessions p)
    unfold State.trackDraw
    rw [State.entry_putEntry_self]
    exact AllotEntry.trackSound_offerDraw (hentries p) draw
  | ramps p =>
    refine hs.change p (fun _ _ => rfl) (fun q hq => State.entry_putEntry_of_ne s _ hq) rfl ?_
      (hsessions p)
    rw [State.entry_putEntry_self]
    exact hentries p

/-! ### Configurations -/

/-- R38: a recompute leaves draw tracking alone. -/
theorem AllotEntry.settleTarget_tracking (q : Parameters) (demand : Nat) (share : Option Nat)
    (e : AllotEntry) : (AllotEntry.settleTarget q demand share e).tracking = e.tracking
      ∧ (AllotEntry.settleTarget q demand share e).runCount = e.runCount := by
  unfold AllotEntry.settleTarget AllotEntry.follow
  split
  · exact ⟨rfl, rfl⟩
  · split <;> exact ⟨rfl, rfl⟩

/-- Where tracking, run counts, sessions and the mode stand as before, so does the law. -/
theorem TrackingLaw.congr {s t : State} (hs : TrackingLaw s)
    (hslots : t.account.slots = s.account.slots)
    (htracking : ∀ p, (t.entry p).tracking = (s.entry p).tracking)
    (hrun : ∀ p, (t.entry p).runCount = (s.entry p).runCount)
    (hon : t.allot.parameters.trackingOn = s.allot.parameters.trackingOn) : TrackingLaw t := by
  obtain ⟨hentries, hsessions⟩ := trackingLaw_iff.mp hs
  have hsession := State.session_congr hslots
  refine trackingLaw_iff.mpr ⟨fun p => ?_, fun p x hx => hsessions p x (hsession p ▸ hx)⟩
  have hp := hentries p
  unfold AllotEntry.trackSound at hp ⊢
  rwa [htracking, hrun, hon, State.delivering_congr (hsession p)]

theorem TrackingLaw.recompute {s : State} (hs : TrackingLaw s) : TrackingLaw s.recompute := by
  refine hs.congr rfl (fun p => ?_) (fun p => ?_) rfl
  · rw [State.entry_recompute_eq]
    exact (AllotEntry.settleTarget_tracking _ _ _ _).1
  · rw [State.entry_recompute_eq]
    exact (AllotEntry.settleTarget_tracking _ _ _ _).2

/-- R63: where no entry tracks, the law asks nothing of the mode. -/
theorem TrackingLaw.of_not_tracking {s t : State} (hs : TrackingLaw s)
    (hslots : t.account.slots = s.account.slots)
    (hnone : ∀ p, (t.entry p).tracking = none) (hrun : ∀ p, (t.entry p).runCount < 3) :
    TrackingLaw t := by
  have hsession := State.session_congr hslots
  exact trackingLaw_iff.mpr ⟨fun p => AllotEntry.trackSound_of_none (hrun p) (hnone p),
    fun p x hx => hs.2 p x (hsession p ▸ hx)⟩

/-- R129: a restore changes an entry's configuration alone. -/
theorem State.restored_entry (s : State) (r : RestoreReading) (p : Pedestal) :
    ∃ c, (s.restored r).entry p = { s.entry p with cfg := c } := by
  obtain ⟨c, hc⟩ := s.restored_tables r
  have hentries : (s.restored r).allot.entries
      = mapCells (fun p e => { e with cfg := cell c.pedestals p }) s.allot.entries :=
    congrArg Tables.entries hc
  refine ⟨cell c.pedestals p, ?_⟩
  rw [State.entry, hentries]
  exact cell_mapCells _ _ _

theorem TrackingLaw.configured {s t : State} (hs : TrackingLaw s)
    (hstart : s.park.startStep = some .restore → ∀ p, s.session p = none) (h : Configured s t) :
    TrackingLaw t := by
  have hslots := h.slots.1
  cases h with
  | siteCeiling c => exact hs.congr hslots (fun _ => rfl) (fun _ => rfl) rfl
  | feeder f c =>
    refine hs.of_tables ?_
    unfold State.writeFeeder
    dsimp only
    split <;> rfl
  | pedestal p c _ =>
    have hentry (q : Pedestal) : (s.configurePedestal p c).entry q
        = if q = p then { s.entry p with cfg := c } else s.entry q := by
      unfold State.configurePedestal
      rw [← State.entry_putEntry]
      split <;> rfl
    have hon : (s.configurePedestal p c).allot.parameters = s.allot.parameters := by
      unfold State.configurePedestal
      dsimp only
      split <;> rfl
    refine hs.congr hslots (fun q => ?_) (fun q => ?_) (congrArg _ hon)
    · rw [hentry]
      split
      · next hq => rw [hq]
      · rfl
    · rw [hentry]
      split
      · next hq => rw [hq]
      · rfl
  | parameters q startQuiesced =>
    by_cases hmode : q.trackingOn = s.allot.parameters.trackingOn
    · have hentries : (s.configureParameters q startQuiesced).allot.entries = s.allot.entries :=
        if_pos hmode
      have hentry := State.entry_congr hentries
      exact hs.congr hslots (fun p => by rw [hentry]) (fun p => by rw [hentry]) hmode
    · have hentry (p : Pedestal) : (s.configureParameters q startQuiesced).entry p
          = (s.entry p).clearTracking := by
        have hentries : (s.configureParameters q startQuiesced).allot.entries
            = mapCells (fun _ e => e.clearTracking) s.allot.entries := if_neg hmode
        rw [State.entry, hentries, cell_mapCells]
        rfl
      refine hs.of_not_tracking hslots (fun p => ?_) fun p => ?_
      · rw [hentry]
        rfl
      · rw [hentry]
        exact Nat.zero_lt_succ _
  | restored r hstep =>
    refine hs.of_not_tracking hslots (fun p => ?_) fun p => ?_
    · obtain ⟨c, hc⟩ := s.restored_entry r p
      rw [hc]
      by_contra htracking
      obtain ⟨hdelivering, -⟩ := (hs.1 p).2 (Option.isSome_iff_ne_none.mpr htracking)
      rw [State.delivering_of_free (hstart hstep p)] at hdelivering
      cases hdelivering
    · obtain ⟨c, hc⟩ := s.restored_entry r p
      rw [hc]
      exact (hs.1 p).1

theorem TrackingLaw.effect {s t : State} (hs : TrackingLaw s)
    (hstart : s.park.startStep = some .restore → ∀ p, s.session p = none) (h : Effect s t) :
    TrackingLaw t := by
  refine h.keeps (P := TrackingLaw) ?_ ?_ ?_ ?_ ?_ afterReset_trackingLaw hs
  · exact Move.keeps_of_tables (fun _ _ htables h => h.of_tables htables) fun _ _ h hm => h.tableMove hm
  · exact fun u hu => (hs.configured hstart hu).recompute
  · exact fun s hs => hs.recompute
  · exact fun s hs => hs.of_tables s.finish_tables
  · exact fun cut => hs.of_tables (s.assertReset_tables cut)

/-- R115: while the start-up sequence runs no session is open. -/
theorem RoomLaw.free_of_startStep {s : State} (hs : RoomLaw s) (h : s.park.startStep.isSome = true)
    (p : Pedestal) : s.session p = none := by
  obtain ⟨hstart, hstarting, -⟩ := hs
  exact State.occupied_eq_zero_iff.mp (hstarting (hstart h)) p

/-! ### The theorem -/

/-- Settles O8. A recompute establishes the law of counting outright, and an event without one changes
neither who counts nor a target; draw tracking is followed move by move. -/
theorem stepKeepsCountingLaw : Obligations.StepKeepsCountingLaw := by
  unfold Obligations.StepKeepsCountingLaw
  refine ⟨fun s t hs hstep => ?_, fun s t hroom hs hstep => ?_⟩
  · exact step_keeps (P := CountingLaw) (fun _ q h => h.pending q) (fun _ h => h.advance 1)
      (fun _ _ h heffect => h.effect heffect) hs hstep
  · obtain rfl | ⟨rest, heffect⟩ := step_cases hstep
    · unfold State.tick
      split
      · exact hs
      · have hadvanced : TrackingLaw (s.advance 1) := hs.tableMove (.advance s 1)
        exact hadvanced.pending _
    · have hpending : TrackingLaw { s with pending := rest } := hs.pending rest
      refine hpending.effect (fun hrestore p => ?_) heffect
      exact hroom.free_of_startStep (congrArg Option.isSome hrestore) p

end Sys2Proof.Machine
end

section
/-! SUPPORT. Link health, the next exchange of a round, and the theorem of the misses (O48). -/

namespace Sys2Proof.Machine
open Sys2Proof

/-! ### The next exchange (R132, R133) -/

theorem find?_eq_some_of_least {l : List Pedestal} {f : Pedestal → Bool} {p : Pedestal}
    (hsorted : l.Pairwise (· < ·)) (hmem : p ∈ l) (hp : f p = true)
    (hleast : ∀ q, q < p → f q = false) : l.find? f = some p := by
  induction l with
  | nil => cases hmem
  | cons q rest ih =>
    rw [List.pairwise_cons] at hsorted
    obtain rfl | hrest := List.mem_cons.mp hmem
    · exact List.find?_cons_of_pos hp
    · have hq := hleast q (hsorted.1 p hrest)
      rw [List.find?_cons_of_neg (by simp [hq])]
      exact ih hsorted.2 hrest

theorem pedestals_sorted : pedestals.Pairwise (· < ·) := by decide

theorem State.polled_iff {s : State} {p : Pedestal} : s.polled p = true ↔
    (s.entry p).cfg.present = true
      ∧ ((s.loopEntry p).link ≠ .lost ∨ s.loop.round.toNat % 8 = 0) := by
  simp [State.polled]

/-- R132: the pedestal is one that an exchange from number `start` on may be with. -/
theorem State.turn_iff {s : State} {start : Nat} {p : Pedestal} :
    (decide (start ≤ p.val) && s.polled p) = true ↔
      start ≤ p.val ∧ (s.entry p).cfg.present = true
        ∧ ((s.loopEntry p).link ≠ .lost ∨ s.loop.round.toNat % 8 = 0) := by
  rw [Bool.and_eq_true, decide_eq_true_iff, State.polled_iff]

theorem State.beginExchange_of_first {s : State} {start : Nat} {p : Pedestal}
    (hp : (decide (start ≤ p.val) && s.polled p) = true)
    (hfirst : ∀ q, q < p → (decide (start ≤ q.val) && s.polled q) = false) :
    s.beginExchange start = { s with loop := { s.loop with
      exchange := some { pedestal := p, left := 2 }
      loopTx := s.pollFrame p
      driverEnable := false } } := by
  unfold State.beginExchange
  rw [find?_eq_some_of_least pedestals_sorted (mem_pedestals p) hp hfirst, Config.exchangeLimit]

theorem State.beginExchange_of_none {s : State} {start : Nat}
    (hnone : ∀ p : Pedestal, (decide (start ≤ p.val) && s.polled p) = false) :
    s.beginExchange start = { s with loop := { s.loop with exchange := none } } := by
  unfold State.beginExchange
  rw [List.find?_eq_none.mpr fun p _ => by simp [hnone p]]

/-! ### Link health (R140 to R143) -/

theorem LoopEntry.miss_eq (e : LoopEntry) : e.miss = { e with
    health := min (e.health + 8) 255, recovery := 0
    link := if e.link = .lost then .lost
      else if min (e.health + 8) 255 < 64 then .good
      else if min (e.health + 8) 255 < 128 then .doubtful else .lost } := by
  cases e with
  | mk health link recovery latest stamp => cases link <;> rfl

theorem LoopEntry.request_congr {x y : LoopEntry} (h : y.latest = x.latest) :
    y.request = x.request := by
  unfold LoopEntry.request
  rw [h]

theorem SessionState.isAuthorised_iff {st : SessionState} :
    SessionState.isAuthorised st = true ↔ st ≠ .authorising := by
  cases st <;> simp [SessionState.isAuthorised]

theorem Session.linkChanged_eq (x : Session) (l : LinkState) : x.linkChanged l = { x with
    linkLossTimer := if l = .lost then
      if x.state = .authorising then x.linkLossTimer else some 60000 else none } := by
  cases l
  · rfl
  · rfl
  · unfold Session.linkChanged
    dsimp only
    rw [if_pos rfl]
    by_cases hstate : x.state = .authorising
    · rw [if_pos hstate, if_neg fun h => SessionState.isAuthorised_iff.mp h hstate]
    · rw [if_neg hstate, if_pos (SessionState.isAuthorised_iff.mpr hstate)]

theorem State.countLink_of_same {s : State} {p : Pedestal} {e : LoopEntry}
    (h : e.link = (s.loopEntry p).link) : s.countLink p e = s.putLoopEntry p e :=
  if_pos h.symm

theorem State.countLink_of_free {s : State} {p : Pedestal} {e : LoopEntry}
    (h : e.link ≠ (s.loopEntry p).link) (hfree : s.session p = none) :
    s.countLink p e = (s.putLoopEntry p e).raiseSite .linkChange := by
  unfold State.countLink
  dsimp only
  rw [if_neg (Ne.symm h), hfree]

theorem State.countLink_of_session {s : State} {p : Pedestal} {e : LoopEntry} {y : Session}
    (h : e.link ≠ (s.loopEntry p).link) (hy : s.session p = some y) :
    s.countLink p e
      = ((s.putLoopEntry p e).raiseSite .linkChange).putSession p (y.linkChanged e.link) := by
  unfold State.countLink
  dsimp only
  rw [if_neg (Ne.symm h), hy]

/-- R143: whatever the link does, its new entry stands in the table. -/
theorem State.countLink_loop (s : State) (p : Pedestal) (e : LoopEntry) :
    (s.countLink p e).loop = (s.putLoopEntry p e).loop := by
  unfold State.countLink
  dsimp only
  repeat' split
  all_goals rfl

theorem recomputeAfter_putLoopEntry {s : State} {p : Pedestal} {e : LoopEntry}
    (hlink : e.link = (s.loopEntry p).link) (hlatest : e.latest = (s.loopEntry p).latest) :
    recomputeAfter s (s.putLoopEntry p e) = s.putLoopEntry p e := by
  refine recomputeAfter_of_noCause (fun q => ?_) fun _ => rfl
  refine pedestalCause_eq_false ?_ rfl ?_ rfl
  · rw [State.loopEntry_putLoopEntry]
    split
    · next hq => rw [hq, LoopEntry.request_congr hlatest]
    · rfl
  · rw [State.loopEntry_putLoopEntry]
    split
    · next hq => rw [hq, hlink]
    · rfl

theorem recomputeAfter_countLink {s : State} {p : Pedestal} {e : LoopEntry}
    (h : e.link ≠ (s.loopEntry p).link) :
    recomputeAfter s (s.countLink p e) = (s.countLink p e).recompute := by
  refine recomputeAfter_of_pedestalCause p ?_
  have hentry : (s.countLink p e).loopEntry p = e := by
    rw [State.loopEntry_congr (congrArg (·.entries) (s.countLink_loop p e)),
      State.loopEntry_putLoopEntry_self]
  simp [pedestalCause, hentry, Ne.symm h]

/-! ### The theorem -/

theorem State.endExchange_of_running {s : State} {p : Pedestal} {f : State → State}
    (h : s.resetAsserted = false) :
    s.endExchange p false f = ((recomputeAfter s (f s)).beginExchange (p.val + 1)).finish := by
  simp [State.endExchange, h]

theorem exec_answerWindowClose {s : State} {x : Exchange} (hrun : s.resetAsserted = false)
    (hx : s.loop.exchange = some x) : exec .answerWindowClose s = .next
      ((recomputeAfter s (s.miss x.pedestal)).beginExchange (x.pedestal.val + 1)).finish := by
  show execAnswerWindowClose s = _
  unfold execAnswerWindowClose
  rw [hx]
  exact congrArg Host.Outcome.next (State.endExchange_of_running hrun)

/-- R139, R143: what a miss comes to, by whether it changes the link. -/
theorem exec_answerWindowClose_cases {s : State} {x : Exchange} {e : LoopEntry}
    (hrun : s.resetAsserted = false) (hx : s.loop.exchange = some x)
    (he : e = (s.loopEntry x.pedestal).miss) :
    (e.link = (s.loopEntry x.pedestal).link → exec .answerWindowClose s
      = .next ((s.putLoopEntry x.pedestal e).beginExchange (x.pedestal.val + 1)).finish)
    ∧ (e.link ≠ (s.loopEntry x.pedestal).link →
      (s.session x.pedestal = none → exec .answerWindowClose s
        = .next ((((s.putLoopEntry x.pedestal e).raiseSite .linkChange).recompute).beginExchange
          (x.pedestal.val + 1)).finish)
      ∧ ∀ y, s.session x.pedestal = some y → exec .answerWindowClose s
        = .next (((((s.putLoopEntry x.pedestal e).raiseSite .linkChange).putSession x.pedestal
          (y.linkChanged e.link)).recompute).beginExchange (x.pedestal.val + 1)).finish) := by
  rw [exec_answerWindowClose hrun hx, State.miss, ← he]
  have hlatest : e.latest = (s.loopEntry x.pedestal).latest := by rw [he, LoopEntry.miss_eq]
  refine ⟨fun hsame => ?_, fun hchange => ⟨fun hfree => ?_, fun y hy => ?_⟩⟩
  · rw [State.countLink_of_same hsame, recomputeAfter_putLoopEntry hsame hlatest]
  · rw [recomputeAfter_countLink hchange, State.countLink_of_free hchange hfree]
  · rw [recomputeAfter_countLink hchange, State.countLink_of_session hchange hy]

/-- Settles O48, by whether the miss changes the link, and by the first pedestal whose turn it is. -/
theorem missesWeakenTheLink : Obligations.MissesWeakenTheLink := by
  unfold Obligations.MissesWeakenTheLink
  refine ⟨fun s x hrun hx => ?_, fun s start => ⟨fun p hp hfirst => ?_, fun hnone => ?_⟩⟩
  · obtain ⟨hsame, hchange⟩ :=
      exec_answerWindowClose_cases hrun hx (LoopEntry.miss_eq (s.loopEntry x.pedestal)).symm
    refine ⟨hsame, fun h => ⟨(hchange h).1, fun y hy => ?_⟩⟩
    rw [(hchange h).2 y hy, Session.linkChanged_eq]
  · refine State.beginExchange_of_first (State.turn_iff.mpr hp) fun q hq => ?_
    rw [← Bool.not_eq_true, State.turn_iff]
    exact hfirst q hq
  · refine State.beginExchange_of_none fun p => ?_
    rw [← Bool.not_eq_true, State.turn_iff]
    exact hnone p

end Sys2Proof.Machine
end

section
/-! SUPPORT. The opening of a session, the reservation test, and the theorem of the reports (O51). -/

namespace Sys2Proof.Machine
open Sys2Proof

/-! ### The reservation test (R127) -/

theorem Store.reserving_iff {st : Store} : st.reserving = true ↔
    (∃ l, .reservation l ∈ st.firstClass)
      ∨ ∃ l left, st.flight = some { op := .reservation l, left := left } := by
  have hwaiting : st.firstClass.any WorkItem.isReservation = true
      ↔ ∃ l, .reservation l ∈ st.firstClass := by
    rw [List.any_eq_true]
    refine ⟨fun ⟨item, hmem, hitem⟩ => ?_, fun ⟨l, hmem⟩ => ⟨_, hmem, rfl⟩⟩
    cases item with
    | reservation l => exact ⟨l, hmem⟩
    | recordWrite | settledMark | erase | save => cases hitem
  unfold Store.reserving
  rw [Bool.or_eq_true, hwaiting]
  refine or_congr_right ?_
  split
  · next l left hflight => exact iff_of_true rfl ⟨l, left, hflight⟩
  · next hother =>
    exact iff_of_false Bool.false_ne_true fun ⟨l, left, hflight⟩ => hother l left hflight

theorem Account.numbersLow_iff {a : Account} :
    a.numbersLow = true ↔ a.reservationLimit < a.nextNumber + 16 := by
  unfold Account.numbersLow
  rw [decide_eq_true_iff, Config.reservationLow]
  omega

theorem State.testReservation_of_low {s : State}
    (hlow : s.account.reservationLimit < s.account.nextNumber + 16)
    (hidle : ¬ s.store.reserving = true) :
    s.testReservation = { s with store := { s.store with
      firstClass := s.store.firstClass
        ++ [.reservation (min (s.account.reservationLimit + 64) 4294967296)] } } := by
  unfold State.testReservation
  rw [if_pos]
  · rfl
  · rw [Bool.and_eq_true, Bool.not_eq_true', Account.numbersLow_iff]
    exact ⟨hlow, by simpa using hidle⟩

theorem State.testReservation_of_not {s : State}
    (h : s.account.nextNumber + 16 ≤ s.account.reservationLimit ∨ s.store.reserving = true) :
    s.testReservation = s := by
  unfold State.testReservation
  rw [if_neg]
  rw [Bool.and_eq_true, Bool.not_eq_true', Account.numbersLow_iff]
  rintro ⟨hlow, hidle⟩
  obtain h | h := h
  · omega
  · rw [h] at hidle
    cases hidle

/-! ### Opening (R6, R7) -/

theorem State.canOpen_iff {s : State} {p : Pedestal} : s.canOpen p = true ↔
    s.park.state = .open ∧ s.store.queue.length < 32
      ∧ s.account.nextNumber < s.account.reservationLimit ∧ (s.entry p).cfg.present = true
      ∧ (cell s.account.rows (cell s.account.bindings p)).valid = true
      ∧ s.account.nextClose + s.occupied ≤ 4294967295 := by
  simp only [State.canOpen, Account.numberAvailable, Bool.and_eq_true, decide_eq_true_iff,
    Config.backlogCount, Config.lastCloseSequence, State.boundRow]
  tauto

/-- R6: the opening up to its reservation test. -/
def State.openCounted (s : State) (p : Pedestal) (reading : Nat) (stamp : Word32) : State :=
  let t := s.putSlot p { s.slot p with session := some (s.newSession p reading stamp),
                                       unavailable := false }
  ({ t with account := { t.account with
    nextNumber := t.account.nextNumber + 1
    authQueue := t.account.authQueue ++ [p] } } : State).reportCount

theorem State.openSession_eq (s : State) (p : Pedestal) (reading : Nat) (stamp : Word32) :
    s.openSession p reading stamp = (s.openCounted p reading stamp).testReservation := rfl

theorem State.openCounted_store (s : State) (p : Pedestal) (reading : Nat) (stamp : Word32) :
    (s.openCounted p reading stamp).store = s.store := by
  simp only [State.openCounted, State.reportCount_store]
  rfl

theorem State.openCounted_nextNumber (s : State) (p : Pedestal) (reading : Nat) (stamp : Word32) :
    (s.openCounted p reading stamp).account.nextNumber = s.account.nextNumber + 1 := by
  simp only [State.openCounted, State.reportCount_account]
  rfl

theorem State.openCounted_limit (s : State) (p : Pedestal) (reading : Nat) (stamp : Word32) :
    (s.openCounted p reading stamp).account.reservationLimit = s.account.reservationLimit := by
  simp only [State.openCounted, State.reportCount_account]
  rfl

theorem State.openSession_store_of_low {s : State} {p : Pedestal} (reading : Nat) (stamp : Word32)
    (hlow : s.account.reservationLimit < s.account.nextNumber + 17)
    (hidle : ¬ s.store.reserving = true) :
    (s.openSession p reading stamp).store = { s.store with
      firstClass := s.store.firstClass
        ++ [.reservation (min (s.account.reservationLimit + 64) 4294967296)] } := by
  rw [State.openSession_eq, State.testReservation_of_low, State.openCounted_store,
    State.openCounted_limit]
  · rw [State.openCounted_limit, State.openCounted_nextNumber]
    omega
  · rwa [State.openCounted_store]

theorem State.openSession_store_of_not {s : State} {p : Pedestal} (reading : Nat) (stamp : Word32)
    (h : s.account.nextNumber + 17 ≤ s.account.reservationLimit ∨ s.store.reserving = true) :
    (s.openSession p reading stamp).store = s.store := by
  rw [State.openSession_eq, State.testReservation_of_not, State.openCounted_store]
  rw [State.openCounted_limit, State.openCounted_nextNumber, State.openCounted_store]
  exact h.imp_left (by omega)

theorem State.openSession_nextNumber (s : State) (p : Pedestal) (reading : Nat) (stamp : Word32) :
    (s.openSession p reading stamp).account.nextNumber = s.account.nextNumber + 1 := by
  rw [State.openSession_account]

theorem State.refuseOpening_of_low {s : State} (p : Pedestal)
    (hnone : s.account.reservationLimit ≤ s.account.nextNumber)
    (hidle : ¬ s.store.reserving = true) :
    s.refuseOpening p = { s.putSlot p { s.slot p with unavailable := true } with
      store := { s.store with firstClass := s.store.firstClass
        ++ [.reservation (min (s.account.reservationLimit + 64) 4294967296)] } } := by
  have havailable : s.account.numberAvailable = false := decide_eq_false (by omega)
  unfold State.refuseOpening
  dsimp only
  rw [if_neg (by simp [havailable]), State.testReservation_of_low]
  · rfl
  · show s.account.reservationLimit < s.account.nextNumber + 16
    omega
  · exact hidle

theorem State.refuseOpening_of_not {s : State} (p : Pedestal)
    (h : s.account.nextNumber < s.account.reservationLimit ∨ s.store.reserving = true) :
    s.refuseOpening p = s.putSlot p { s.slot p with unavailable := true } := by
  unfold State.refuseOpening
  dsimp only
  obtain h | h := h
  · have havailable : s.account.numberAvailable = true := decide_eq_true h
    rw [if_pos havailable]
  · split
    · rfl
    · exact State.testReservation_of_not (.inr h)

/-! ### A report at a FREE slot -/

theorem State.applyReport_of_free {s : State} {p : Pedestal} (hfree : s.session p = none)
    (r : Report) (stamp : Word32) : s.applyReport p r stamp = s.reportFree p r stamp := by
  simp only [State.applyReport, hfree]

theorem State.reportFree_of_other {s : State} {p : Pedestal} {r : Report} (hidle : r.state ≠ .idle)
    (hplugged : r.state ≠ .plugged) (stamp : Word32) : s.reportFree p r stamp = s := by
  unfold State.reportFree
  split
  · next h => exact absurd h hidle
  · next h => exact absurd h hplugged
  · rfl

theorem State.reportFree_of_plugged {s : State} {p : Pedestal} {r : Report}
    (h : r.state = .plugged) (stamp : Word32) : s.reportFree p r stamp =
      if (s.slot p).refused then s
      else if s.canOpen p then s.openSession p r.reading stamp else s.refuseOpening p := by
  simp only [State.reportFree, h]

/-! ### STOPPING and PARKED as whole states -/

/-- R61: the entry of a pedestal whose tracking, where it is on, has ended. -/
theorem State.endTracking_putSession (s : State) (p : Pedestal) (y : Session) :
    (s.putSession p y).endTracking p = (s.putSession p y).putEntry p
      (if (s.entry p).tracking = none then s.entry p
        else { s.entry p with tracking := none, runCount := 0 }) := by
  rw [State.endTracking, State.entry_putSession, AllotEntry.endTracking_eq_ite]

/-- R17, R61: the state with a session in STOPPING, before HOLD_STOP is raised. -/
def State.stoppedBy (s : State) (p : Pedestal) (x : Session) (reason : StopReason) : State :=
  (s.putSession p (x.toStopping reason)).putEntry p
    (if (s.entry p).tracking = none then s.entry p
      else { s.entry p with tracking := none, runCount := 0 })

/-- R19, R61: the state with a session in PARKED. -/
def State.parkedBy (s : State) (p : Pedestal) (x : Session) (by_ : ParkedBy) : State :=
  (s.putSession p (x.toParked by_)).putEntry p
    (if (s.entry p).tracking = none then s.entry p
      else { s.entry p with tracking := none, runCount := 0 })

theorem State.enterStopping_of_ne {s : State} {p : Pedestal} {x : Session}
    (hx : s.session p = some x) {reason : StopReason} (h : reason ≠ .hold) :
    s.enterStopping p reason = s.stoppedBy p x reason := by
  rw [State.enterStopping_eq hx, if_neg h, State.endTracking_putSession, State.stoppedBy]

theorem State.enterStopping_hold {s : State} {p : Pedestal} {x : Session}
    (hx : s.session p = some x) :
    s.enterStopping p .hold = (s.stoppedBy p x .hold).raisePay .holdStop := by
  rw [State.enterStopping_eq hx, if_pos rfl, State.endTracking_putSession, State.stoppedBy]

theorem State.enterParked_whole {s : State} {p : Pedestal} {x : Session}
    (hx : s.session p = some x) (by_ : ParkedBy) : s.enterParked p by_ = s.parkedBy p x by_ := by
  rw [State.enterParked_eq hx, State.endTracking_putSession, State.parkedBy]

/-! ### The stop cause of a report (R15, R16, R19) -/

theorem Report.stopCause_of_emergency {r : Report} (h : r.emergency = true) :
    r.stopCause = some .emergency := if_pos h

theorem Report.stopCause_of_fault {r : Report} (h : r.emergency = false) (hfault : r.state = .fault) :
    r.stopCause = some .pedestalFault := by
  simp [Report.stopCause, h, hfault]

theorem Report.stopCause_of_pressed {r : Report} (h : r.emergency = false)
    (hfault : r.state ≠ .fault) (hpressed : r.stopPressed = true) :
    r.stopCause = some .customerStop := by
  simp [Report.stopCause, h, hfault, hpressed]

theorem Report.stopCause_of_none {r : Report} (h : r.emergency = false) (hfault : r.state ≠ .fault)
    (hpressed : r.stopPressed = false) : r.stopCause = none := by
  simp [Report.stopCause, h, hfault, hpressed]

/-! ### A report at a session, by the session's state -/

theorem State.reportCharging_idle {r : Report} (h : r.state = .idle) (s : State) (p : Pedestal) :
    s.reportCharging p r = s.close p .unplugged false := by
  simp only [State.reportCharging, h]

theorem State.reportCharging_of_cause {r : Report} (h : r.state ≠ .idle) {reason : StopReason}
    (hcause : r.stopCause = some reason) (s : State) (p : Pedestal) :
    s.reportCharging p r = s.enterStopping p reason := by
  unfold State.reportCharging
  split
  · next hidle => exact absurd hidle h
  · rw [hcause]

theorem State.reportCharging_of_none {r : Report} (h : r.state ≠ .idle)
    (hcause : r.stopCause = none) (s : State) (p : Pedestal) :
    s.reportCharging p r = if r.state = .complete then s.enterParked p .complete else s := by
  unfold State.reportCharging
  split
  · next hidle => exact absurd hidle h
  · rw [hcause]

theorem State.reportStopping_of_other {r : Report} (hidle : r.state ≠ .idle)
    (hcharging : r.state ≠ .charging) (s : State) (p : Pedestal) (x : Session) :
    s.reportStopping p x r = if r.draw = 0 then s.enterParked p .stop else s := by
  unfold State.reportStopping
  split
  · next h => exact absurd h hidle
  · next h => exact absurd h hcharging
  · rfl

theorem State.reportParked_of_other {r : Report} (hidle : r.state ≠ .idle) (s : State)
    (p : Pedestal) (x : Session) :
    s.reportParked p x r = if x.parkedBy = some .complete then
        match r.stopCause with
        | some reason => s.putSession p (x.lateStop reason)
        | none => if r.state = .charging then s.revive p x else s
      else s := by
  unfold State.reportParked
  split
  · next h => exact absurd h hidle
  · rfl

theorem State.reportParked_of_stop {r : Report} (hidle : r.state ≠ .idle) {x : Session}
    (hby : x.parkedBy ≠ some .complete) (s : State) (p : Pedestal) :
    s.reportParked p x r = s := by
  rw [State.reportParked_of_other hidle, if_neg hby]

theorem State.reportParked_of_cause {r : Report} (hidle : r.state ≠ .idle) {x : Session}
    (hby : x.parkedBy = some .complete) {reason : StopReason} (hcause : r.stopCause = some reason)
    (s : State) (p : Pedestal) : s.reportParked p x r = s.putSession p (x.lateStop reason) := by
  rw [State.reportParked_of_other hidle, if_pos hby, hcause]

theorem State.reportParked_of_none {r : Report} (hidle : r.state ≠ .idle) {x : Session}
    (hby : x.parkedBy = some .complete) (hcause : r.stopCause = none) (s : State) (p : Pedestal) :
    s.reportParked p x r = if r.state = .charging then s.revive p x else s := by
  rw [State.reportParked_of_other hidle, if_pos hby, hcause]

/-- R103: the committed amount is below the stop threshold. -/
theorem Session.atThreshold_iff {x : Session} {reserve : Nat} :
    x.atThreshold reserve = true ↔ x.hold.getD 0 ≤ reserve + x.committed := by
  unfold Session.atThreshold Session.stopThreshold
  rw [decide_eq_true_iff]
  omega

theorem State.applyReport_of_authorising {s : State} {p : Pedestal} {x : Session}
    (hx : s.session p = some x) (hstate : x.state = .authorising) (r : Report) (stamp : Word32) :
    s.applyReport p r stamp = if r.state = .idle then s.void p false else s := by
  simp only [State.applyReport, hx, hstate]

theorem State.applyReport_of_counting {s : State} {p : Pedestal} {x : Session}
    (hx : s.session p = some x) (hstate : x.state = .ready ∨ x.state = .delivering) (r : Report)
    (stamp : Word32) : s.applyReport p r stamp = s.reportCharging p r := by
  obtain h | h := hstate
  · simp only [State.applyReport, hx, h]
  · simp only [State.applyReport, hx, h]

theorem State.applyReport_of_stopping {s : State} {p : Pedestal} {x : Session}
    (hx : s.session p = some x) (hstate : x.state = .stopping) (r : Report) (stamp : Word32) :
    s.applyReport p r stamp = s.reportStopping p x r := by
  simp only [State.applyReport, hx, hstate]

theorem State.applyReport_of_parked {s : State} {p : Pedestal} {x : Session}
    (hx : s.session p = some x) (hstate : x.state = .parked) (r : Report) (stamp : Word32) :
    s.applyReport p r stamp = s.reportParked p x r := by
  simp only [State.applyReport, hx, hstate]

/-- R15, R16: what a report that is not IDLE does in READY and DELIVERING. -/
theorem State.reportCharging_cases {s : State} {p : Pedestal} {x : Session} {r : Report}
    (hx : s.session p = some x) (hidle : r.state ≠ .idle) :
    (r.emergency = true → s.reportCharging p r = s.stoppedBy p x .emergency)
    ∧ (r.emergency = false → r.state = .fault → s.reportCharging p r = s.stoppedBy p x .pedestalFault)
    ∧ (r.emergency = false → r.state ≠ .fault → r.stopPressed = true →
      s.reportCharging p r = s.stoppedBy p x .customerStop)
    ∧ (r.emergency = false → r.stopPressed = false → r.state = .complete →
      s.reportCharging p r = s.parkedBy p x .complete)
    ∧ (r.emergency = false → r.stopPressed = false → r.state = .plugged ∨ r.state = .charging →
      s.reportCharging p r = s) := by
  have hstop {reason : StopReason} (hcause : r.stopCause = some reason) (hne : reason ≠ .hold) :
      s.reportCharging p r = s.stoppedBy p x reason := by
    rw [State.reportCharging_of_cause hidle hcause, State.enterStopping_of_ne hx hne]
  refine ⟨fun h => ?_, fun h hfault => ?_, fun h hfault hpressed => ?_,
    fun h hpressed hcomplete => ?_, fun h hpressed hother => ?_⟩
  · exact hstop (Report.stopCause_of_emergency h) nofun
  · exact hstop (Report.stopCause_of_fault h hfault) nofun
  · exact hstop (Report.stopCause_of_pressed h hfault hpressed) nofun
  · have hnone := Report.stopCause_of_none h (by rw [hcomplete]; exact nofun) hpressed
    rw [State.reportCharging_of_none hidle hnone, if_pos hcomplete, State.enterParked_whole hx]
  · have hstate : r.state ≠ .fault ∧ r.state ≠ .complete := by
      obtain hother | hother := hother <;> rw [hother] <;> exact ⟨nofun, nofun⟩
    have hnone := Report.stopCause_of_none h hstate.1 hpressed
    rw [State.reportCharging_of_none hidle hnone, if_neg hstate.2]

/-- R19: what a CHARGING report without a stop cause does in PARKED by COMPLETE. -/
theorem State.revive_cases {s : State} {p : Pedestal} {x : Session} {r : Report}
    (hx : s.session p = some x) :
    (r.state = .charging → s.allot.parameters.holdReserve + x.committed < x.hold.getD 0 →
      (if r.state = .charging then s.revive p x else s)
        = s.putSession p { x with state := if 0 < x.billed then .delivering else .ready })
    ∧ (r.state = .charging → x.hold.getD 0 ≤ s.allot.parameters.holdReserve + x.committed →
      (if r.state = .charging then s.revive p x else s)
        = (s.stoppedBy p x .hold).raisePay .holdStop) := by
  refine ⟨fun hcharging hbelow => ?_, fun hcharging habove => ?_⟩
  · rw [if_pos hcharging, State.revive, if_neg]
    rw [Session.atThreshold_iff]
    omega
  · rw [if_pos hcharging, State.revive, if_pos (Session.atThreshold_iff.mpr habove),
      State.enterStopping_hold hx]

/-! ### The theorem -/

/-- Settles O51, by the slot's state, then by the report's. -/
theorem reportsMoveSessions : Obligations.ReportsMoveSessions := by
  unfold Obligations.ReportsMoveSessions
  refine ⟨fun s p r stamp hfree => ?_, fun s p x r stamp hx => ?_⟩
  · dsimp only
    rw [State.applyReport_of_free hfree, ← Store.reserving_iff, ← State.canOpen_iff]
    refine ⟨fun hidle => ?_, fun hidle hplugged => State.reportFree_of_other hidle hplugged stamp,
      fun hplugged hrefused => ?_, fun hplugged hrefused => ⟨fun hopen => ?_, fun hopen => ?_⟩⟩
    · simp only [State.reportFree, hidle]
    · rw [State.reportFree_of_plugged hplugged, if_pos hrefused]
    · rw [State.reportFree_of_plugged hplugged, if_neg (by simp [hrefused]), if_neg hopen]
      exact ⟨State.refuseOpening_of_low p, State.refuseOpening_of_not p⟩
    · rw [State.reportFree_of_plugged hplugged, if_neg (by simp [hrefused]), if_pos hopen]
      exact ⟨⟨_, (s.openSession_session p p _ stamp).trans (if_pos rfl), rfl, rfl⟩,
        s.openSession_nextNumber p _ stamp, State.openSession_store_of_low _ stamp,
        State.openSession_store_of_not _ stamp⟩
  · dsimp only
    refine ⟨fun hstate => ?_, fun hstate => ?_, fun hstate => ?_, fun hstate => ?_⟩
    · rw [State.applyReport_of_authorising hx hstate]
      exact ⟨fun h => if_pos h, fun h => if_neg h⟩
    · rw [State.applyReport_of_counting hx hstate]
      exact ⟨fun h => State.reportCharging_idle h s p, fun hidle =>
        State.reportCharging_cases hx hidle⟩
    · rw [State.applyReport_of_stopping hx hstate]
      refine ⟨fun h => ?_, fun h => ?_, fun hidle hcharging => ⟨fun hdraw => ?_, fun hdraw => ?_⟩⟩
      · simp only [State.reportStopping, h]
      · simp only [State.reportStopping, h]
      · rw [State.reportStopping_of_other hidle hcharging, if_pos hdraw, State.enterParked_whole hx]
        rfl
      · rw [State.reportStopping_of_other hidle hcharging, if_neg hdraw]
    · rw [State.applyReport_of_parked hx hstate]
      refine ⟨fun h => ?_, fun hidle hby => State.reportParked_of_stop hidle hby s p,
        fun hidle hby => ⟨fun c hc => State.reportParked_of_cause hidle hby hc s p, fun hc => ?_⟩⟩
      · simp only [State.reportParked, h]
        rfl
      · rw [State.reportParked_of_none hidle hby hc]
        exact ⟨fun h => if_neg h, State.revive_cases hx⟩

end Sys2Proof.Machine
end

section
/-! SUPPORT. An accepted answer as a whole state, the causes of its recompute, and the theorem of draw
tracking (O52). -/

namespace Sys2Proof.Machine
open Sys2Proof

/-! ### The answered link (R137, R140) -/

/-- R137: the loop entry of an accepted answer: its health counted, its report stored with its stamp. -/
def LoopEntry.answered (e : LoopEntry) (r : Report) (now : Word32) : LoopEntry :=
  { e.good with latest := some r, latestStamp := some now }

theorem LoopEntry.answered_of_not_lost {e : LoopEntry} (h : e.link ≠ .lost) (r : Report)
    (now : Word32) : e.answered r now =
      { health := e.health - 1, recovery := 0, latest := some r, latestStamp := some now
        link := if e.health - 1 < 64 then .good
          else if e.health - 1 < 128 then .doubtful else .lost } := by
  unfold LoopEntry.answered LoopEntry.good
  split
  · next hlost => exact absurd hlost h
  · rfl

theorem LoopEntry.answered_of_recovering {e : LoopEntry} (h : e.link = .lost)
    (hrun : e.recovery < 7) (r : Report) (now : Word32) : e.answered r now =
      { e with recovery := e.recovery + 1, latest := some r, latestStamp := some now } := by
  unfold LoopEntry.answered LoopEntry.good
  rw [h]
  dsimp only
  rw [if_pos (by omega)]

theorem LoopEntry.answered_of_recovered {e : LoopEntry} (h : e.link = .lost)
    (hrun : 7 ≤ e.recovery) (r : Report) (now : Word32) : e.answered r now =
      { health := 0, link := .good, recovery := 0, latest := some r, latestStamp := some now } := by
  unfold LoopEntry.answered LoopEntry.good
  rw [h]
  dsimp only
  rw [if_neg (by omega)]

theorem LoopEntry.answered_eq (e : LoopEntry) (r : Report) (now : Word32) : e.answered r now =
    if e.link ≠ .lost then
      { health := e.health - 1, recovery := 0, latest := some r, latestStamp := some now
        link := if e.health - 1 < 64 then .good
          else if e.health - 1 < 128 then .doubtful else .lost }
    else if e.recovery < 7 then
      { e with recovery := e.recovery + 1, latest := some r, latestStamp := some now }
    else { health := 0, link := .good, recovery := 0, latest := some r, latestStamp := some now } := by
  split
  · next h => exact LoopEntry.answered_of_not_lost h r now
  · next h =>
    have hlost := not_not.mp h
    split
    · next hrun => exact LoopEntry.answered_of_recovering hlost hrun r now
    · next hrun => exact LoopEntry.answered_of_recovered hlost (not_lt.mp hrun) r now

theorem LoopEntry.answered_request (e : LoopEntry) (r : Report) (now : Word32) :
    (e.answered r now).request = r.request := rfl

/-- R137: counting the answer and storing its report write the loop entry once. -/
theorem State.storeReport_eq (s : State) (p : Pedestal) (r : Report) :
    s.storeReport p r = s.countLink p ((s.loopEntry p).answered r s.time.ms) := by
  have hcounted : (s.countLink p (s.loopEntry p).good).loopEntry p = (s.loopEntry p).good := by
    rw [State.loopEntry_congr (congrArg (·.entries) (s.countLink_loop p _)),
      State.loopEntry_putLoopEntry_self]
  have hput (e : LoopEntry) : (s.countLink p (s.loopEntry p).good).putLoopEntry p
      { (s.loopEntry p).good with latest := e.latest, latestStamp := e.latestStamp }
      = s.countLink p { (s.loopEntry p).good with
          latest := e.latest, latestStamp := e.latestStamp } := by
    unfold State.countLink
    dsimp only
    repeat' split
    · exact s.putLoopEntry_putLoopEntry p _ _
    · exact congrArg (fun t : State => (t.raiseSite .linkChange).putSession p _)
        (s.putLoopEntry_putLoopEntry p _ _)
    · exact congrArg (fun t : State => t.raiseSite .linkChange) (s.putLoopEntry_putLoopEntry p _ _)
  unfold State.storeReport
  dsimp only
  rw [hcounted]
  exact hput { (s.loopEntry p).good with latest := some r, latestStamp := some s.time.ms }

theorem State.countLink_agreesAt (s : State) {p q : Pedestal} (e : LoopEntry) (h : q ≠ p) :
    (s.countLink p e).agreesAt q s := by
  unfold State.countLink
  dsimp only
  repeat' split
  · exact ⟨rfl, rfl⟩
  · exact State.agreesAt_trans (State.putSession_agreesAt _ _ h) ⟨rfl, rfl⟩
  · exact ⟨rfl, rfl⟩

/-- R143: a link's change is none of the allotment, the Time Base, the Measurement Unit, the store and
the park, and none of the account but for a session's timer. -/
theorem State.countLink_frame (s : State) (p : Pedestal) (e : LoopEntry) :
    (s.countLink p e).allot = s.allot ∧ (s.countLink p e).time = s.time
      ∧ (s.countLink p e).meas = s.meas ∧ (s.countLink p e).resetAsserted = s.resetAsserted
      ∧ (s.countLink p e).loop = (s.putLoopEntry p e).loop := by
  unfold State.countLink
  dsimp only
  repeat' split
  all_goals exact ⟨rfl, rfl, rfl, rfl, rfl⟩

/-! ### The causes of the recompute (R29) -/

theorem State.countsForPower_iff {s : State} {p : Pedestal} : s.countsForPower p = true ↔
    ∃ y, s.session p = some y ∧ (y.state = .ready ∨ y.state = .delivering) := by
  unfold State.countsForPower
  cases s.session p with
  | none => simp
  | some x => cases hstate : x.state <;> simp [SessionState.counts, hstate]

theorem State.accept_loopEntry (s : State) (p q : Pedestal) (r : Report) :
    (s.accept p r).loopEntry q
      = if q = p then (s.loopEntry p).answered r s.time.ms else s.loopEntry q := by
  obtain ⟨-, -, -, -, hloop⟩ := s.countLink_frame p ((s.loopEntry p).answered r s.time.ms)
  rw [State.accept, State.loopEntry_treatReport, State.storeReport_eq,
    State.loopEntry_congr (congrArg (·.entries) hloop), State.loopEntry_putLoopEntry]

theorem State.accept_agreesAt (s : State) {p q : Pedestal} (r : Report) (h : q ≠ p) :
    (s.accept p r).agreesAt q s := by
  refine State.agreesAt_trans (State.treatReport_agreesAt _ r _ h) ?_
  rw [State.storeReport_eq]
  exact s.countLink_agreesAt _ h

theorem State.readAndApply_parameters (s : State) (p : Pedestal) (r : Report) (stamp : Word32) :
    (s.readAndApply p r stamp).allot.parameters = s.allot.parameters :=
  congrArg (·.2.2) (s.readAndApply_tables p r stamp)

theorem State.accept_feeder (s : State) (p : Pedestal) (r : Report) (f : Feeder) :
    (s.accept p r).feeder f = s.feeder f := by
  have hfeeders : (s.accept p r).allot.feeders = (s.storeReport p r).allot.feeders :=
    congrArg (·.1) ((s.storeReport p r).readAndApply_tables p r s.time.ms)
  obtain ⟨hallot, -⟩ := s.countLink_frame p ((s.loopEntry p).answered r s.time.ms)
  rw [State.feeder_congr hfeeders, State.storeReport_eq]
  exact State.feeder_congr (congrArg (·.feeders) hallot) f

/-- R29: an accepted answer is a cause of a recompute through its own pedestal alone. -/
theorem State.accept_cause_iff (s : State) (p : Pedestal) (r : Report) :
    recomputeCause s (s.accept p r) = true ↔
      (s.loopEntry p).request ≠ r.request
        ∨ s.countsForPower p ≠ (s.accept p r).countsForPower p
        ∨ ((s.loopEntry p).answered r s.time.ms).link ≠ (s.loopEntry p).link
        ∨ (s.entry p).tracking ≠ ((s.accept p r).entry p).tracking := by
  have hfactor : factorCause s (s.accept p r) = false := by
    simp [factorCause, State.accept_feeder]
  have hother (q : Pedestal) (hq : q ≠ p) : pedestalCause s (s.accept p r) q = false := by
    obtain ⟨hslot, hentry⟩ := s.accept_agreesAt r hq
    have hloop : (s.accept p r).loopEntry q = s.loopEntry q := by
      rw [State.accept_loopEntry, if_neg hq]
    exact pedestalCause_eq_false (by rw [hloop])
      (State.countsForPower_congr (congrArg SessionSlot.session hslot)) (by rw [hloop]) (by rw [hentry])
  have hcause : recomputeCause s (s.accept p r) = pedestalCause s (s.accept p r) p := by
    rw [recomputeCause, hfactor, Bool.or_false]
    cases hp : pedestalCause s (s.accept p r) p with
    | true => exact List.any_eq_true.mpr ⟨p, mem_pedestals p, hp⟩
    | false =>
      refine List.any_eq_false.mpr fun q _ => ?_
      by_cases hq : q = p
      · rw [hq, hp]
        exact Bool.false_ne_true
      · rw [hother q hq]
        exact Bool.false_ne_true
  rw [hcause, pedestalCause, State.accept_loopEntry, if_pos rfl, LoopEntry.answered_request]
  simp only [Bool.or_eq_true, bne_iff_ne, or_assoc]
  rw [ne_comm (a := (s.loopEntry p).link)]

/-- R60: the draw lowers the tracking cap, as an equality of the entry's cap. -/
theorem AllotEntry.lowers_iff {q : Parameters} {draw : Nat} {e : AllotEntry} :
    e.lowers q draw = true ↔ ∃ c, e.tracking = some c ∧ draw + q.slack < c
      ∧ draw + q.slack / 2 < e.grant := by
  unfold AllotEntry.lowers
  cases htracking : e.tracking with
  | none => simp
  | some c => simp [and_comm]

/-! ### The event of an accepted answer (R137) -/

theorem exec_answerFrameReceived {s : State} {x : Exchange} {rx : List LoopChar} {frame : List Byte}
    (hx : s.loop.exchange = some x) (hframe : answerFrame rx = some frame) :
    exec (.answerFrameReceived rx) s = .next (s.endExchange x.pedestal
      (s.answerLowers x.pedestal frame) fun t => t.takeAnswer x.pedestal frame) := by
  show execAnswerFrameReceived rx s = _
  unfold execAnswerFrameReceived
  rw [hx, hframe]

theorem State.takeAnswer_of_report {s : State} {p : Pedestal} {frame : List Byte} {r : Report}
    (hread : reportOf frame p (s.entry p).cfg.cap = some r) :
    s.takeAnswer p frame = s.accept p r := by
  rw [State.takeAnswer, hread]

theorem State.answerLowers_iff {s : State} {p : Pedestal} {frame : List Byte} {r : Report}
    (hread : reportOf frame p (s.entry p).cfg.cap = some r) :
    s.answerLowers p frame = true ↔
      ∃ c, (((s.storeReport p r).readAndApply p r s.time.ms).entry p).tracking = some c
        ∧ r.draw + s.allot.parameters.slack < c
        ∧ r.draw + s.allot.parameters.slack / 2
          < (((s.storeReport p r).readAndApply p r s.time.ms).entry p).grant := by
  obtain ⟨hallot, -⟩ := s.countLink_frame p ((s.loopEntry p).answered r s.time.ms)
  rw [State.answerLowers, hread]
  dsimp only
  rw [State.reportLowers, AllotEntry.lowers_iff, State.readAndApply_parameters, State.storeReport_eq,
    hallot]

/-- R29, R137: an accepted answer recomputes where it is a cause, and the next exchange begins. -/
theorem exec_answerFrameReceived_of_report {s : State} {x : Exchange} {rx : List LoopChar}
    {frame : List Byte} {r : Report} (hrun : s.resetAsserted = false)
    (hx : s.loop.exchange = some x) (hframe : answerFrame rx = some frame)
    (hread : reportOf frame x.pedestal (s.entry x.pedestal).cfg.cap = some r) :
    (recomputeCause s (s.accept x.pedestal r) = true ∨ s.answerLowers x.pedestal frame = true →
      exec (.answerFrameReceived rx) s = .next
        ((s.accept x.pedestal r).recompute.beginExchange (x.pedestal.val + 1)).finish)
    ∧ (¬ (recomputeCause s (s.accept x.pedestal r) = true
        ∨ s.answerLowers x.pedestal frame = true) →
      exec (.answerFrameReceived rx) s = .next
        ((s.accept x.pedestal r).beginExchange (x.pedestal.val + 1)).finish) := by
  rw [exec_answerFrameReceived hx hframe, State.endExchange, if_neg (by simp [hrun]),
    State.takeAnswer_of_report hread]
  dsimp only
  by_cases hlowers : s.answerLowers x.pedestal frame = true
  · rw [if_pos hlowers]
    exact ⟨fun _ => rfl, fun h => absurd (.inr hlowers) h⟩
  · rw [if_neg hlowers, recomputeAfter]
    refine ⟨fun h => ?_, fun h => ?_⟩
    · rw [if_pos (h.resolve_right hlowers)]
    · rw [if_neg fun hcause => h (.inl hcause)]

/-! ### A draw offered to draw tracking (R58 to R61) -/

theorem AllotEntry.meetsEntry_iff {q : Parameters} {delivering : Bool} {draw : Nat}
    {e : AllotEntry} : e.meetsEntry q delivering draw = true ↔
      q.trackingOn = true ∧ delivering = true ∧ draw + q.slack < e.grant := by
  unfold AllotEntry.meetsEntry
  simp only [Bool.and_eq_true, decide_eq_true_iff]
  constructor
  · rintro ⟨⟨⟨hon, hdelivering⟩, -⟩, hlow⟩
    exact ⟨hon, hdelivering, hlow⟩
  · rintro ⟨hon, hdelivering, hlow⟩
    exact ⟨⟨⟨hon, hdelivering⟩, by omega⟩, hlow⟩

theorem State.delivering_iff {s : State} {p : Pedestal} :
    s.delivering p = true ↔ ∃ x, s.session p = some x ∧ x.state = .delivering := by
  unfold State.delivering
  cases s.session p <;> simp

/-- R59: a draw offered where tracking is off. -/
theorem AllotEntry.offerDraw_of_off {e : AllotEntry} (h : e.tracking = none) (q : Parameters)
    (delivering : Bool) (draw : Nat) : e.offerDraw q delivering draw =
      if e.meetsEntry q delivering draw then
        if e.runCount + 1 < 3 then { e with runCount := e.runCount + 1 }
        else { e with tracking := some (max (draw + q.slack) q.minGrant), runCount := 0 }
      else { e with runCount := 0 } := by
  simp only [AllotEntry.offerDraw, h]

/-- R60, R61: a draw offered where tracking is on. -/
theorem AllotEntry.offerDraw_of_on {e : AllotEntry} {c : Nat} (h : e.tracking = some c)
    (q : Parameters) (delivering : Bool) (draw : Nat) : e.offerDraw q delivering draw =
      if e.grant ≤ draw + q.slack / 2 then { e with tracking := none, runCount := 0 }
      else if draw + q.slack < c then { e with tracking := some (max (draw + q.slack) q.minGrant) }
      else e := by
  simp only [AllotEntry.offerDraw, h]

/-- R58 to R61: the four ends of an offered draw, as whole states. -/
theorem State.trackDraw_cases (s : State) (p : Pedestal) (draw : Nat) :
    ((s.entry p).tracking = none →
      (¬ (s.entry p).meetsEntry s.allot.parameters (s.delivering p) draw = true →
        s.trackDraw p draw = s.putEntry p { s.entry p with runCount := 0 })
      ∧ ((s.entry p).meetsEntry s.allot.parameters (s.delivering p) draw = true →
        (s.entry p).runCount < 2 →
        s.trackDraw p draw = s.putEntry p { s.entry p with runCount := (s.entry p).runCount + 1 })
      ∧ ((s.entry p).meetsEntry s.allot.parameters (s.delivering p) draw = true →
        2 ≤ (s.entry p).runCount → s.trackDraw p draw = s.putEntry p { s.entry p with
          tracking := some (max (draw + s.allot.parameters.slack) s.allot.parameters.minGrant)
          runCount := 0 }))
    ∧ ∀ c, (s.entry p).tracking = some c →
      ((s.entry p).grant ≤ draw + s.allot.parameters.slack / 2 →
        s.trackDraw p draw = s.putEntry p { s.entry p with tracking := none, runCount := 0 })
      ∧ (draw + s.allot.parameters.slack / 2 < (s.entry p).grant →
        (draw + s.allot.parameters.slack < c → s.trackDraw p draw = s.putEntry p { s.entry p with
          tracking := some (max (draw + s.allot.parameters.slack) s.allot.parameters.minGrant) })
        ∧ (c ≤ draw + s.allot.parameters.slack → s.trackDraw p draw = s)) := by
  unfold State.trackDraw
  refine ⟨fun hoff => ?_, fun c hc => ?_⟩
  · rw [AllotEntry.offerDraw_of_off hoff]
    refine ⟨fun hnot => ?_, fun hlow hrun => ?_, fun hlow hrun => ?_⟩
    · rw [if_neg hnot]
    · rw [if_pos hlow, if_pos (by omega)]
    · rw [if_pos hlow, if_neg (by omega)]
  · rw [AllotEntry.offerDraw_of_on hc]
    refine ⟨fun hnear => ?_, fun hfar => ⟨fun hlower => ?_, fun hhold => ?_⟩⟩
    · rw [if_pos hnear]
    · rw [if_neg (by omega), if_pos hlower]
    · rw [if_neg (by omega), if_neg (by omega), State.putEntry_entry]

/-- R29, R137: what an accepted answer comes to, by the causes of its recompute. -/
theorem exec_answerFrameReceived_causes {s held : State} {x : Exchange} {rx : List LoopChar}
    {frame : List Byte} {r : Report} {new : LoopEntry} (hrun : s.resetAsserted = false)
    (hx : s.loop.exchange = some x) (hframe : answerFrame rx = some frame)
    (hread : reportOf frame x.pedestal (s.entry x.pedestal).cfg.cap = some r)
    (hnew : new = (s.loopEntry x.pedestal).answered r s.time.ms)
    (hheld : held = s.storeReport x.pedestal r) {cause : Prop}
    (hcause : cause ↔ (s.loopEntry x.pedestal).request ≠ r.request
      ∨ ¬ (s.countsForPower x.pedestal = true
        ↔ (held.treatReport x.pedestal r s.time.ms).countsForPower x.pedestal = true)
      ∨ new.link ≠ (s.loopEntry x.pedestal).link
      ∨ (s.entry x.pedestal).tracking
        ≠ ((held.treatReport x.pedestal r s.time.ms).entry x.pedestal).tracking
      ∨ ∃ c, ((held.readAndApply x.pedestal r s.time.ms).entry x.pedestal).tracking = some c
        ∧ r.draw + s.allot.parameters.slack < c
        ∧ r.draw + s.allot.parameters.slack / 2
          < ((held.readAndApply x.pedestal r s.time.ms).entry x.pedestal).grant) :
    (cause → exec (.answerFrameReceived rx) s = .next
      ((held.treatReport x.pedestal r s.time.ms).recompute.beginExchange
        (x.pedestal.val + 1)).finish)
    ∧ (¬ cause → exec (.answerFrameReceived rx) s = .next
      ((held.treatReport x.pedestal r s.time.ms).beginExchange (x.pedestal.val + 1)).finish) := by
  have hboth : cause ↔ recomputeCause s (s.accept x.pedestal r) = true
      ∨ s.answerLowers x.pedestal frame = true := by
    rw [hcause, State.accept_cause_iff, State.answerLowers_iff hread, ← hnew, hheld,
      ← Bool.eq_iff_iff, or_assoc, or_assoc, or_assoc]
    rfl
  rw [hboth, hheld]
  exact exec_answerFrameReceived_of_report hrun hx hframe hread

/-! ### The theorem -/

/-- Settles O52. The three steps of an accepted answer touch its own pedestal alone, so its causes are
those of that pedestal; the draw follows the branches of its tests. -/
theorem drawTrackingFollowsItsTests : Obligations.DrawTrackingFollowsItsTests := by
  unfold Obligations.DrawTrackingFollowsItsTests
  refine fun s p => ⟨fun x rx frame r hrun hx hp hframe hread => ?_, fun draw => ?_⟩
  · subst hp
    intro now old h new put held moved t counts cause
    have hnew : new = (s.loopEntry x.pedestal).answered r s.time.ms :=
      (LoopEntry.answered_eq _ _ _).symm
    have hheld : held = s.storeReport x.pedestal r := by
      rw [State.storeReport_eq, ← hnew]
      by_cases hlink : new.link = old.link
      · exact (if_pos hlink).trans (State.countLink_of_same hlink).symm
      · refine (if_neg hlink).trans ?_
        split
        · next hfree => exact (State.countLink_of_free hlink hfree).symm
        · next y hy =>
          rw [State.countLink_of_session hlink hy, Session.linkChanged_eq]
    refine exec_answerFrameReceived_causes hrun hx hframe hread hnew hheld ?_
    rw [State.countsForPower_iff, State.countsForPower_iff]
    rfl
  · dsimp only
    rw [← State.delivering_iff, ← AllotEntry.meetsEntry_iff]
    exact s.trackDraw_cases p draw

end Sys2Proof.Machine
end

section
/-! SUPPORT. What the end of an exchange leaves alone, the opening as a whole slot, and the theorem of
the answers (O49). -/

namespace Sys2Proof.Machine
open Sys2Proof

/-! ### The end of an event leaves the settlement queue alone (R112) -/

@[simp] theorem State.startItem_queue (s : State) (item : WorkItem) :
    (s.startItem item).store.queue = s.store.queue := by
  unfold State.startItem
  repeat' split
  all_goals rfl

@[simp] theorem State.startWork_queue (s : State) : s.startWork.store.queue = s.store.queue := by
  unfold State.startWork
  repeat' split
  all_goals simp

@[simp] theorem State.finish_queue (s : State) : s.finish.store.queue = s.store.queue :=
  s.startWork_queue

theorem State.testReservation_queue (s : State) :
    s.testReservation.store.queue = s.store.queue := by
  unfold State.testReservation
  split <;> rfl

/-- The end of an exchange leaves these parts of the machine as the answer left them. -/
structure State.concludes (t v : State) : Prop where
  entries : t.loop.entries = v.loop.entries
  account : t.account = v.account
  park    : t.park = v.park
  time    : t.time = v.time
  meas    : t.meas = v.meas
  queue   : t.store.queue = v.store.queue

theorem State.concludes_beginExchange (v : State) (n : Nat) :
    ((v.beginExchange n).finish).concludes v := by
  obtain ⟨x, tx, driver, hbegin⟩ := v.beginExchange_eq n
  rw [hbegin]
  constructor <;> simp

theorem State.concludes_recompute (v : State) : v.recompute.concludes v := by
  constructor <;> simp

theorem State.concludes_trans {t u v : State} (h : t.concludes u) (k : u.concludes v) :
    t.concludes v :=
  { entries := h.entries.trans k.entries, account := h.account.trans k.account
    park := h.park.trans k.park, time := h.time.trans k.time, meas := h.meas.trans k.meas
    queue := h.queue.trans k.queue }

/-- R29, R137: with its recompute or without it, an accepted answer concludes. -/
theorem exec_answerFrameReceived_concludes {s : State} {x : Exchange} {rx : List LoopChar}
    {frame : List Byte} {r : Report} (hrun : s.resetAsserted = false)
    (hx : s.loop.exchange = some x) (hframe : answerFrame rx = some frame)
    (hread : reportOf frame x.pedestal (s.entry x.pedestal).cfg.cap = some r) :
    ∃ t, exec (.answerFrameReceived rx) s = .next t ∧ t.concludes (s.accept x.pedestal r) := by
  obtain ⟨hcause, hnone⟩ := exec_answerFrameReceived_of_report hrun hx hframe hread
  by_cases h : recomputeCause s (s.accept x.pedestal r) = true
      ∨ s.answerLowers x.pedestal frame = true
  · exact ⟨_, hcause h, State.concludes_trans (State.concludes_beginExchange _ _)
      (State.concludes_recompute _)⟩
  · exact ⟨_, hnone h, State.concludes_beginExchange _ _⟩

/-- R136: an answer that fails a test is the miss of a closed window. -/
theorem exec_answerFrameReceived_of_miss {s : State} {x : Exchange} {rx : List LoopChar}
    {frame : List Byte} (hrun : s.resetAsserted = false) (hx : s.loop.exchange = some x)
    (hframe : answerFrame rx = some frame)
    (hread : reportOf frame x.pedestal (s.entry x.pedestal).cfg.cap = none) :
    exec (.answerFrameReceived rx) s = exec .answerWindowClose s := by
  have hlowers : s.answerLowers x.pedestal frame = false := by
    rw [State.answerLowers, hread]
  have htake : s.takeAnswer x.pedestal frame = s.miss x.pedestal := by
    rw [State.takeAnswer, hread]
  rw [exec_answerFrameReceived hx hframe, hlowers, State.endExchange_of_running hrun, htake,
    exec_answerWindowClose hrun hx]

theorem State.accept_frame (s : State) (p : Pedestal) (r : Report) :
    (s.accept p r).time = s.time ∧ (s.accept p r).meas = s.meas := by
  obtain ⟨-, htime, hmeas, -⟩ := s.countLink_frame p ((s.loopEntry p).answered r s.time.ms)
  rw [State.accept, State.treatReport_time, State.treatReport_meas, State.storeReport_eq]
  exact ⟨htime, hmeas⟩

/-! ### A PLUGGED report at a FREE slot (R6) -/

/-- R56, R137: the state in which a report at a FREE slot is applied. -/
def State.heard (s : State) (p : Pedestal) (r : Report) : State :=
  (s.storeReport p r).takeReading p r.reading s.time.ms

theorem State.accept_of_free {s : State} {p : Pedestal} (hfree : s.session p = none) (r : Report) :
    (s.heard p r).account = s.account ∧ (s.heard p r).park = s.park ∧ (s.heard p r).store = s.store
      ∧ (s.heard p r).time = s.time ∧ ((s.heard p r).entry p).cfg = (s.entry p).cfg := by
  have hstored : (s.storeReport p r).account = s.account ∧ (s.storeReport p r).park = s.park
      ∧ (s.storeReport p r).store = s.store ∧ (s.storeReport p r).time = s.time
      ∧ (s.storeReport p r).allot = s.allot := by
    rw [State.storeReport_eq]
    unfold State.countLink
    dsimp only
    rw [hfree]
    split <;> exact ⟨rfl, rfl, rfl, rfl, rfl⟩
  obtain ⟨haccount, hpark, hstore, htime, hallot⟩ := hstored
  have hfree' : (s.storeReport p r).session p = none :=
    (State.session_congr (congrArg Account.slots haccount) p).trans hfree
  have hheard : s.heard p r = (s.storeReport p r).putEntry p
      ((s.storeReport p r).entry p).resetPeak := by
    unfold State.heard State.takeReading
    rw [hfree']
  rw [hheard, State.entry_putEntry_self]
  refine ⟨haccount, hpark, hstore, htime, ?_⟩
  show ((s.storeReport p r).entry p).cfg = _
  rw [State.entry_congr (congrArg (·.entries) hallot)]

theorem State.accept_of_opening {s : State} {p : Pedestal} {r : Report}
    (hfree : (s.heard p r).session p = none) (hplugged : r.state = .plugged)
    (hrefused : ((s.heard p r).slot p).refused = false) (hopen : (s.heard p r).canOpen p = true) :
    s.accept p r = ((s.heard p r).openSession p r.reading s.time.ms).trackDraw p r.draw := by
  show ((s.heard p r).applyReport p r s.time.ms).trackDraw p r.draw = _
  rw [State.applyReport_of_free hfree, State.reportFree_of_plugged hplugged,
    if_neg (by simp [hrefused]), if_pos hopen]

theorem State.openSession_queue (s : State) (p : Pedestal) (reading : Nat) (stamp : Word32) :
    (s.openSession p reading stamp).store.queue = s.store.queue := by
  rw [State.openSession_eq, State.testReservation_queue, State.openCounted_store]

theorem State.openSession_authQueue (s : State) (p : Pedestal) (reading : Nat) (stamp : Word32) :
    (s.openSession p reading stamp).account.authQueue = s.account.authQueue ++ [p] := by
  rw [State.openSession_account]

/-- R6, R180: an opening leaves the park OPEN. -/
theorem State.openSession_park {s : State} (hopen : s.park.state = .open) (p : Pedestal)
    (reading : Nat) (stamp : Word32) : (s.openSession p reading stamp).park.state = .open := by
  rw [State.openSession_eq, State.testReservation_park, State.openCounted, State.reportCount_stays]
  · exact hopen
  · refine .inl ?_
    show s.park.state ≠ .draining
    rw [hopen]
    exact nofun

/-! ### The theorem -/

/-- R6: an accepted PLUGGED answer that meets the conditions of R6 is the opening. -/
theorem State.accept_opens {s : State} {p : Pedestal} {r : Report} (hplugged : r.state = .plugged)
    (hfree : s.session p = none) (hrefused : (s.slot p).refused = false)
    (hopen : s.canOpen p = true) :
    (s.accept p r).slot p = { s.slot p with
        session := some (s.newSession p r.reading s.time.ms), unavailable := false }
      ∧ (s.accept p r).account.nextNumber = s.account.nextNumber + 1
      ∧ (s.accept p r).account.authQueue = s.account.authQueue ++ [p]
      ∧ (s.accept p r).park.openCount = (s.accept p r).occupied
      ∧ (s.accept p r).park.state = .open ∧ (s.accept p r).store.queue = s.store.queue := by
  obtain ⟨haccount, hpark, hstore, htime, hcfg⟩ := State.accept_of_free hfree r
  have hslot := State.slot_congr (congrArg Account.slots haccount) p
  have hsession := State.session_congr (congrArg Account.slots haccount)
  have hoccupied : (s.heard p r).occupied = s.occupied :=
    State.occupied_congr fun q => by rw [hsession]
  have hopen' : (s.heard p r).canOpen p = true := by
    rw [State.canOpen_iff] at hopen ⊢
    rwa [haccount, hpark, hstore, hcfg, hoccupied]
  have hnew : (s.heard p r).newSession p r.reading s.time.ms
      = s.newSession p r.reading s.time.ms := by
    simp only [State.newSession, State.boundRow, State.clockNow, haccount, htime]
  rw [State.accept_of_opening ((hsession p).trans hfree) hplugged (by rw [hslot, hrefused]) hopen',
    State.slot_trackDraw, State.trackDraw_account, State.trackDraw_park, State.trackDraw_store,
    State.occupied_trackDraw, State.openSession_slot, if_pos rfl, hnew, hslot,
    State.openSession_nextNumber, State.openSession_authQueue, State.openSession_openCount,
    State.openSession_queue, haccount, hstore]
  refine ⟨rfl, rfl, rfl, rfl, State.openSession_park ?_ p _ _, rfl⟩
  rw [hpark]
  exact (State.canOpen_iff.mp hopen).1

/-- Settles O49, by the tests of R136, then by the link and by the conditions of R6. -/
theorem answersAreAcceptedOrMissed : Obligations.AnswersAreAcceptedOrMissed := by
  unfold Obligations.AnswersAreAcceptedOrMissed
  intro s x rx frame hrun hx hframe
  refine ⟨exec_answerFrameReceived_of_miss hrun hx hframe, fun r hread => ?_⟩
  obtain ⟨t, hexec, hentries, haccount, hpark, htime, hmeas, hqueue⟩ :=
    exec_answerFrameReceived_concludes hrun hx hframe hread
  have hentry : t.loopEntry x.pedestal = (s.loopEntry x.pedestal).answered r s.time.ms := by
    rw [State.loopEntry_congr hentries, State.accept_loopEntry, if_pos rfl]
  have hslot := State.slot_congr (congrArg Account.slots haccount)
  have hoccupied : t.occupied = (s.accept x.pedestal r).occupied :=
    State.occupied_congr fun q => by rw [State.session_congr (congrArg Account.slots haccount)]
  obtain ⟨htime', hmeas'⟩ := s.accept_frame x.pedestal r
  refine ⟨t, hexec, ?_⟩
  dsimp only
  rw [hentry, htime, hmeas, hslot, haccount, hpark, hqueue, hoccupied]
  refine ⟨fun h => ?_, fun h hlow => ?_, fun h hhigh => ?_, fun q hq => ⟨?_, ?_⟩,
    htime', hmeas', fun hplugged hfree hrefused hstate hbacklog hnumber hpresent hvalid hclose => ?_⟩
  · exact LoopEntry.answered_of_not_lost h r _
  · exact LoopEntry.answered_of_recovering h hlow r _
  · exact LoopEntry.answered_of_recovered h hhigh r _
  · rw [State.loopEntry_congr hentries, State.accept_loopEntry, if_neg hq]
  · rw [hslot]
    exact (s.accept_agreesAt r hq).1
  · obtain ⟨hopened, hrest⟩ := State.accept_opens hplugged hfree hrefused
      (State.canOpen_iff.mpr ⟨hstate, hbacklog, hnumber, hpresent, hvalid, hclose⟩)
    refine ⟨hopened.trans ?_, hrest⟩
    dsimp only
    rw [hrefused]
    rfl

end Sys2Proof.Machine
end

section
/-! SUPPORT. What the entry to POWER_FAIL leaves (R24, R181): one slot's close or void, then a list of
them in order, and the theorem of the supply (O55). -/

namespace Sys2Proof.Machine
open Sys2Proof

/-! ### One slot -/

/-- R24, R8: the slot after the power-fail close. -/
def SessionSlot.failed (y : SessionSlot) : SessionSlot :=
  match y.session with
  | none => y
  | some x =>
    if x.state = .authorising then { y with session := none, lastEnded := x.number }
    else { y with session := none, refused := true, lastEnded := x.number }

theorem SessionSlot.failed_of_free {y : SessionSlot} (h : y.session = none) : y.failed = y := by
  simp only [SessionSlot.failed, h]

theorem SessionSlot.failed_of_authorising {y : SessionSlot} {x : Session} (h : y.session = some x)
    (hstate : x.state = .authorising) :
    y.failed = { y with session := none, lastEnded := x.number } := by
  simp only [SessionSlot.failed, h, if_pos hstate]

theorem SessionSlot.failed_of_authorised {y : SessionSlot} {x : Session} (h : y.session = some x)
    (hstate : x.state ≠ .authorising) :
    y.failed = { y with session := none, refused := true, lastEnded := x.number } := by
  simp only [SessionSlot.failed, h, if_neg hstate]

theorem SessionSlot.failed_session (y : SessionSlot) : y.failed.session = none := by
  cases h : y.session with
  | none => rw [SessionSlot.failed_of_free h, h]
  | some x =>
    by_cases hstate : x.state = .authorising
    · rw [SessionSlot.failed_of_authorising h hstate]
    · rw [SessionSlot.failed_of_authorised h hstate]

/-- R24: the authorised session of a pedestal, which the power-fail close closes. -/
def State.toClose (s : State) (p : Pedestal) : Option (Pedestal × Session) :=
  (s.session p).bind fun x => if x.state = .authorising then none else some (p, x)

/-- R22: the records of sessions closed in order, with consecutive close sequences. -/
def failRecords (now : ClockStamp) (n : Nat) (closed : List (Pedestal × Session)) :
    List SettlementRecord :=
  (closed.zipIdx n).map fun c => c.1.2.record c.1.1 c.2 .powerFail now

theorem failRecords_append (now : ClockStamp) (n : Nat) (l k : List (Pedestal × Session)) :
    failRecords now n (l ++ k) = failRecords now n l ++ failRecords now (n + l.length) k := by
  simp [failRecords, List.zipIdx_append]

/-- R115: what of the queue is below the close-sequence counter. -/
def State.queueBelow (s : State) : Prop :=
  ∀ e ∈ s.store.queue, e.closeSequence < s.account.nextClose

/-- What the power-fail close of the pedestals of a list leaves, from `s` to `t`. -/
structure State.fails (s t : State) (l : List Pedestal) : Prop where
  slot : ∀ q, t.slot q = if q ∈ l then (s.slot q).failed else s.slot q
  authQueue : ∀ q, q ∈ t.account.authQueue ↔ q ∈ s.account.authQueue
    ∧ ¬ (q ∈ l ∧ ∃ x, s.session q = some x ∧ x.state = .authorising)
  nextClose : t.account.nextClose = s.account.nextClose + (l.filterMap s.toClose).length
  identities : t.store.queue.map QueueEntry.identity = s.store.queue.map QueueEntry.identity
    ++ (failRecords s.clockNow s.account.nextClose (l.filterMap s.toClose)).map
      fun r => (joiningEntry r).identity
  appends : s.queueBelow → t.queueBelow ∧ ∃ added, t.store.queue = s.store.queue ++ added
  openCount : s.park.openCount = s.occupied → t.park.openCount = t.occupied
  park : s.park.state = .powerFail → t.park.state = .powerFail ∧ t.park.startStep = s.park.startStep
    ∧ (cell t.site.notices 5).pending = (cell s.site.notices 5).pending
  time : t.time = s.time
  loop : t.loop = s.loop
  meas : t.meas = s.meas

theorem State.fails_nil (s : State) : s.fails s [] where
  slot q := by simp
  authQueue q := by simp
  nextClose := rfl
  identities := by simp [failRecords]
  appends h := ⟨h, [], by simp⟩
  openCount := id
  park h := ⟨h, rfl, rfl⟩
  time := rfl
  loop := rfl
  meas := rfl

/-- A list of pedestals, the first of which the rest does not hold. -/
theorem State.fails_cons {s t u : State} {p : Pedestal} {rest : List Pedestal} (hp : p ∉ rest)
    (h : s.fails t [p]) (k : t.fails u rest) : s.fails u (p :: rest) := by
  have hslot (q : Pedestal) (hq : q ∈ rest) : t.slot q = s.slot q := by
    rw [h.slot, if_neg]
    simp only [List.mem_singleton]
    rintro rfl
    exact hp hq
  have hsession (q : Pedestal) (hq : q ∈ rest) : t.session q = s.session q :=
    congrArg SessionSlot.session (hslot q hq)
  have hclosed : rest.filterMap t.toClose = rest.filterMap s.toClose :=
    List.filterMap_congr fun q hq => by rw [State.toClose, State.toClose, hsession q hq]
  have hall : (p :: rest).filterMap s.toClose
      = [p].filterMap s.toClose ++ rest.filterMap s.toClose := by
    rw [← List.filterMap_append]
    rfl
  have hnow : t.clockNow = s.clockNow := by simp only [State.clockNow, h.time]
  refine
    { slot := fun q => ?_, authQueue := fun q => ?_, nextClose := ?_, identities := ?_
      appends := fun hbelow => ?_, openCount := fun hcount => k.openCount (h.openCount hcount)
      park := fun hpark => ?_, time := k.time.trans h.time, loop := k.loop.trans h.loop
      meas := k.meas.trans h.meas }
  · rw [k.slot]
    by_cases hq : q ∈ rest
    · rw [if_pos hq, if_pos (List.mem_cons_of_mem p hq), hslot q hq]
    · rw [if_neg hq, h.slot]
      simp [hq]
  · rw [k.authQueue, h.authQueue, List.mem_singleton, List.mem_cons]
    constructor
    · rintro ⟨⟨hmem, hfirst⟩, hrest⟩
      refine ⟨hmem, ?_⟩
      rintro ⟨hq | hq, hx⟩
      · exact hfirst ⟨hq, hx⟩
      · exact hrest ⟨hq, by rwa [hsession q hq]⟩
    · rintro ⟨hmem, hnone⟩
      refine ⟨⟨hmem, fun ⟨hq, hx⟩ => hnone ⟨.inl hq, hx⟩⟩, fun ⟨hq, hx⟩ => ?_⟩
      rw [hsession q hq] at hx
      exact hnone ⟨.inr hq, hx⟩
  · rw [k.nextClose, h.nextClose, hclosed, hall, List.length_append, Nat.add_assoc]
  · rw [k.identities, h.identities, h.nextClose, hnow, hclosed, hall, failRecords_append,
      List.map_append, List.append_assoc]
  · obtain ⟨hbelow', added, hadded⟩ := h.appends hbelow
    obtain ⟨hbelow'', added', hadded'⟩ := k.appends hbelow'
    exact ⟨hbelow'', added ++ added', by rw [hadded', hadded, List.append_assoc]⟩
  · obtain ⟨hstate, hstep, hnotice⟩ := h.park hpark
    obtain ⟨hstate', hstep', hnotice'⟩ := k.park hstate
    exact ⟨hstate', hstep'.trans hstep, hnotice'.trans hnotice⟩

/-! ### A void and a close in POWER_FAIL -/

theorem State.reportCount_powerFail {s : State} (h : s.park.state = .powerFail) :
    s.reportCount.park.state = .powerFail ∧ s.reportCount.park.startStep = s.park.startStep
      ∧ s.reportCount.site = s.site := by
  rw [State.reportCount_stays (.inl (by rw [h]; exact nofun))]
  exact ⟨h, rfl, rfl⟩

theorem State.enqueueRecord_parkNotice (s : State) (r : SettlementRecord) :
    (cell (s.enqueueRecord r).site.notices 5).pending = (cell s.site.notices 5).pending := by
  rw [State.enqueueRecord_eq, State.claimFor]
  cases (s.joinQueue r).chooseSlot with
  | none =>
    show (cell (setPending s.site.notices SiteCause.storeFault.idx true) 5).pending = _
    rw [setPending, cell_putCell_of_ne _ _ (by decide)]
  | some c =>
    show (cell ((s.joinQueue r).takeSlot c).site.notices 5).pending = _
    rw [State.takeSlot_site]
    rfl

theorem State.toClose_of_free {s : State} {p : Pedestal} (h : s.session p = none) :
    s.toClose p = none := by
  rw [State.toClose, h]
  rfl

theorem State.toClose_of_authorising {s : State} {p : Pedestal} {x : Session}
    (hx : s.session p = some x) (h : x.state = .authorising) : s.toClose p = none := by
  rw [State.toClose, hx]
  exact if_pos h

theorem State.toClose_of_authorised {s : State} {p : Pedestal} {x : Session}
    (hx : s.session p = some x) (h : x.state ≠ .authorising) : s.toClose p = some (p, x) := by
  rw [State.toClose, hx]
  exact if_neg h

theorem State.filterMap_toClose_none {s : State} {p : Pedestal} (h : s.toClose p = none) :
    [p].filterMap s.toClose = [] := by
  simp [h]

theorem State.filterMap_toClose_some {s : State} {p : Pedestal} {c : Pedestal × Session}
    (h : s.toClose p = some c) : [p].filterMap s.toClose = [c] := by
  simp [h]

theorem State.void_fails {s : State} {p : Pedestal} {x : Session} (hx : s.session p = some x)
    (hstate : x.state = .authorising) : s.fails (s.void p (s.slot p).refused) [p] := by
  have hnone := State.filterMap_toClose_none (State.toClose_of_authorising hx hstate)
  have hnext : (s.void p (s.slot p).refused).account.nextClose = s.account.nextClose := by
    rw [State.void_eq hx, State.reportCount_account]
  refine
    { slot := fun q => ?_, authQueue := fun q => ?_, nextClose := ?_, identities := ?_
      appends := fun hbelow => ?_, openCount := fun _ => State.void_openCount hx _
      park := fun hpark => ?_, time := State.void_time s p _, loop := State.void_loop s p _
      meas := State.void_meas s p _ }
  · rw [State.void_slot hx]
    simp only [List.mem_singleton]
    split
    · next hq => rw [hq, SessionSlot.failed_of_authorising hx hstate]
    · rfl
  · rw [State.void_authQueue hx, List.mem_filter, decide_eq_true_iff, List.mem_singleton]
    refine and_congr_right fun _ => not_congr ⟨fun hq => ⟨hq, x, hq ▸ hx, hstate⟩, And.left⟩
  · rw [hnext, hnone]
    rfl
  · rw [State.void_store, hnone]
    simp [failRecords]
  · refine ⟨fun e he => ?_, [], ?_⟩
    · rw [State.void_store] at he
      rw [hnext]
      exact hbelow e he
    · rw [State.void_store, List.append_nil]
  · rw [State.void_eq hx]
    obtain ⟨hstate', hstep, hsite⟩ := State.reportCount_powerFail (s := { s with
      account := { s.account with
        slots := putCell s.account.slots p
          { s.slot p with session := none, refused := (s.slot p).refused, lastEnded := x.number }
        authQueue := s.account.authQueue.filter fun q => decide (q ≠ p) } }) hpark
    exact ⟨hstate', hstep, by rw [hsite]⟩

theorem State.close_nextClose {s : State} {p : Pedestal} {x : Session} (hx : s.session p = some x)
    (reason : CloseReason) (refused : Bool) :
    (s.close p reason refused).account.nextClose = s.account.nextClose + 1 := by
  rw [State.close_account hx]

theorem State.close_authQueue {s : State} {p : Pedestal} {x : Session} (hx : s.session p = some x)
    (reason : CloseReason) (refused : Bool) :
    (s.close p reason refused).account.authQueue = s.account.authQueue := by
  rw [State.close_account hx]

/-- R22: behind records of lower close sequences a close appends its own. -/
theorem State.close_appends {s : State} {p : Pedestal} {x : Session} (hx : s.session p = some x)
    (reason : CloseReason) (refused : Bool) (hbelow : s.queueBelow) :
    (s.close p reason refused).queueBelow
      ∧ ∃ added, (s.close p reason refused).store.queue = s.store.queue ++ added := by
  obtain ⟨e, happend, hidentity⟩ := State.enqueueRecord_append
    (r := x.record p s.account.nextClose reason s.clockNow) hbelow
  have hqueue : (s.close p reason refused).store.queue = s.store.queue ++ [e] := by
    rw [State.close_store hx, happend]
  have hsequence : e.closeSequence = s.account.nextClose := congrArg (·.2.1) hidentity
  refine ⟨fun y hy => ?_, [e], hqueue⟩
  rw [hqueue, List.mem_append, List.mem_singleton] at hy
  rw [State.close_nextClose hx]
  obtain hy | rfl := hy
  · exact Nat.lt_succ_of_lt (hbelow y hy)
  · rw [hsequence]
    exact Nat.lt_succ_self _

theorem State.close_fails {s : State} {p : Pedestal} {x : Session} (hx : s.session p = some x)
    (hstate : x.state ≠ .authorising) : s.fails (s.close p .powerFail true) [p] := by
  have hone := State.filterMap_toClose_some (State.toClose_of_authorised hx hstate)
  refine
    { slot := fun q => ?_, authQueue := fun q => ?_, nextClose := ?_, identities := ?_
      appends := State.close_appends hx _ _, openCount := fun _ => State.close_openCount hx _ _
      park := fun hpark => ?_, time := State.close_time s p _ _, loop := State.close_loop s p _ _
      meas := State.close_meas s p _ _ }
  · rw [State.close_slot hx]
    simp only [List.mem_singleton]
    split
    · next hq => rw [hq, SessionSlot.failed_of_authorised hx hstate]
    · rfl
  · rw [State.close_authQueue hx, List.mem_singleton]
    refine (and_iff_left ?_).symm
    rintro ⟨rfl, y, hy, hauthorising⟩
    rw [hx] at hy
    cases hy
    exact hstate hauthorising
  · rw [State.close_nextClose hx, hone]
    rfl
  · rw [State.close_store hx, State.enqueueRecord_identities, hone]
    rfl
  · rw [State.close_eq_enqueue hx]
    obtain ⟨hstate', hstep, hsite⟩ := State.reportCount_powerFail
      (s := (s.enqueueRecord (x.record p s.account.nextClose .powerFail s.clockNow)).countClose.freeSlot
        p true x.number) ((congrArg Park.state (State.enqueueRecord_park s _)).trans hpark)
    refine ⟨hstate', hstep.trans (congrArg Park.startStep (State.enqueueRecord_park s _)), ?_⟩
    rw [hsite]
    exact s.enqueueRecord_parkNotice _

theorem State.powerFailSlot_fails (s : State) (p : Pedestal) : s.fails (s.powerFailSlot p) [p] := by
  unfold State.powerFailSlot
  split
  · next hfree =>
    have hnone := State.filterMap_toClose_none (State.toClose_of_free hfree)
    refine { s.fails_nil with slot := fun q => ?_, authQueue := fun q => ?_, nextClose := ?_,
                              identities := ?_ }
    · simp only [List.mem_singleton]
      split
      · next hq => rw [hq, SessionSlot.failed_of_free hfree]
      · rfl
    · rw [List.mem_singleton]
      refine (and_iff_left ?_).symm
      rintro ⟨rfl, y, hy, -⟩
      rw [hfree] at hy
      cases hy
    · rw [hnone]
      rfl
    · rw [hnone]
      simp [failRecords]
  · next x hx =>
    split
    · next hstate => exact State.void_fails hx hstate
    · next hstate => exact State.close_fails hx hstate

theorem State.powerFailAll_fails {l : List Pedestal} (hl : l.Nodup) (s : State) :
    s.fails (l.foldl State.powerFailSlot s) l := by
  induction l generalizing s with
  | nil => exact s.fails_nil
  | cons p rest ih =>
    rw [List.nodup_cons] at hl
    exact State.fails_cons hl.1 (s.powerFailSlot_fails p) (ih hl.2 _)

end Sys2Proof.Machine
end

section
/-! SUPPORT. The theorem of the supply (O55): what the power-fail close says of the queue, the halted
machine it starts from, and the run counts. -/

namespace Sys2Proof.Machine
open Sys2Proof

/-! ### The records of the closed sessions -/

theorem getElem?_failRecords {now : ClockStamp} {n k : Nat} {closed : List (Pedestal × Session)}
    {p : Pedestal} {x : Session} (h : closed[k]? = some (p, x)) :
    (failRecords now n closed)[k]? = some (x.record p (n + k) .powerFail now) := by
  simp [failRecords, h]

theorem QueueEntry.of_identity {e : QueueEntry} {r : SettlementRecord}
    (h : e.identity = (joiningEntry r).identity) :
    e.session = r.session ∧ e.closeSequence = r.closeSequence ∧ e.body = .built r :=
  ⟨congrArg (·.1) h, congrArg (·.2.1) h, congrArg (·.2.2.1) h⟩

/-- R24: the records of the closed sessions stand behind those already queued, in order. -/
theorem State.fails_added {s t : State} {l : List Pedestal} (h : s.fails t l)
    (hbelow : s.queueBelow) : ∃ added : List QueueEntry, t.store.queue = s.store.queue ++ added
      ∧ added.length = (l.filterMap s.toClose).length
      ∧ ∀ (k : Nat) (p : Pedestal) (x : Session), (l.filterMap s.toClose)[k]? = some (p, x) →
        ∃ e rec, added[k]? = some e ∧ e.body = .built rec ∧ rec.pedestal = p
          ∧ e.session = x.number ∧ e.closeSequence = s.account.nextClose + k := by
  obtain ⟨-, added, hadded⟩ := h.appends hbelow
  have hidentities := h.identities
  rw [hadded, List.map_append] at hidentities
  have hsame := List.append_cancel_left hidentities
  refine ⟨added, hadded, ?_, fun k p x hk => ?_⟩
  · simpa [failRecords] using congrArg List.length hsame
  · have hrecord := getElem?_failRecords (now := s.clockNow) (n := s.account.nextClose) hk
    have hidentity := congrArg (·[k]?) hsame
    rw [List.getElem?_map, List.getElem?_map, hrecord, Option.map_some,
      Option.map_eq_some_iff] at hidentity
    obtain ⟨e, he, hid⟩ := hidentity
    obtain ⟨hsession, hsequence, hbody⟩ := QueueEntry.of_identity hid
    exact ⟨e, _, he, hbody, rfl, hsession, hsequence⟩

/-- R24: a closed session's record is in the queue. -/
theorem State.fails_record {s t : State} {l : List Pedestal} (h : s.fails t l) {p : Pedestal}
    {x : Session} (hp : p ∈ l) (hx : s.session p = some x) (hstate : x.state ≠ .authorising) :
    ∃ e ∈ t.store.queue, ∃ rec, e.body = .built rec ∧ rec.pedestal = p ∧ rec.session = x.number
      ∧ rec.closeReason = .powerFail := by
  have hmem : (p, x) ∈ l.filterMap s.toClose :=
    List.mem_filterMap.mpr ⟨p, hp, State.toClose_of_authorised hx hstate⟩
  obtain ⟨k, hk⟩ := List.mem_iff_getElem?.mp hmem
  have hrecord := List.mem_of_getElem?
    (getElem?_failRecords (now := s.clockNow) (n := s.account.nextClose) hk)
  have hqueued : (joiningEntry (x.record p (s.account.nextClose + k) .powerFail s.clockNow)).identity
      ∈ t.store.queue.map QueueEntry.identity := by
    rw [h.identities]
    exact List.mem_append_right _ (List.mem_map_of_mem hrecord)
  obtain ⟨e, he, hid⟩ := List.mem_map.mp hqueued
  obtain ⟨-, -, hbody⟩ := QueueEntry.of_identity hid
  exact ⟨e, he, _, hbody, rfl, rfl, rfl⟩

theorem State.fails_session {s t : State} (h : s.fails t pedestals) (p : Pedestal) :
    t.session p = none := by
  rw [State.session, h.slot, if_pos (mem_pedestals p), SessionSlot.failed_session]

/-! ### The entry to POWER_FAIL (R178, R181) -/

/-- R178, R181: the machine in POWER_FAIL before its sessions close. -/
def State.halted (s : State) : State :=
  { s.enterPark .powerFail with park := { (s.enterPark .powerFail).park with startStep := none } }

/-- The sessions of the halted machine closed and voided. -/
def State.failed (s : State) : State := pedestals.foldl State.powerFailSlot s.halted

theorem State.enterPowerFail_eq (s : State) : s.enterPowerFail = s.failed.recompute := rfl

theorem State.failed_fails (s : State) : s.halted.fails s.failed pedestals :=
  State.powerFailAll_fails (by decide) s.halted

theorem State.failed_park (s : State) : s.failed.park.state = .powerFail
    ∧ s.failed.park.startStep = none ∧ (cell s.failed.site.notices 5).pending = true := by
  obtain ⟨hstate, hstep, hnotice⟩ := s.failed_fails.park rfl
  refine ⟨hstate, hstep, hnotice.trans ?_⟩
  show (cell (setPending s.site.notices SiteCause.parkState.idx true) 5).pending = true
  rw [setPending]
  exact congrArg Notice.pending (cell_putCell_self s.site.notices 5 _)

/-- R39: with no session open nothing has a target, a grant or a ramp timer after the recompute. -/
theorem State.failed_entry (s : State) (p : Pedestal) : (s.failed.recompute.entry p).target = 0
    ∧ (s.failed.recompute.entry p).grant = 0 ∧ (s.failed.recompute.entry p).rampTimer = none := by
  rw [State.entry_recompute_of_not_counting
    (.inl (State.countsForPower_of_free (State.fails_session s.failed_fails p)))]
  exact ⟨rfl, rfl, rfl⟩

theorem State.failed_openCount {s : State} (h : s.park.openCount = s.occupied) :
    s.failed.park.openCount = 0 := by
  rw [s.failed_fails.openCount h]
  exact State.occupied_eq_zero_iff.mpr (State.fails_session s.failed_fails)

/-- R174: the end of an event leaves PARK_STATE as it was. -/
theorem State.finish_parkNotice (s : State) :
    (cell s.finish.site.notices 5).pending = (cell s.site.notices 5).pending := by
  show (cell (setPending s.startWork.site.notices SiteCause.sensorFault.idx _) 5).pending = _
  rw [setPending, cell_putCell_of_ne _ _ (by decide), State.startWork_site]

/-! ### The run counts (R181, R182) -/

theorem Measurement.supply_eq (m : Measurement) (code : BitVec 12) : m.supply code = { m with
    scanSlot := Fin.ofNat 8 (m.scanSlot.val + if m.scanSlot.val % 2 = 0 then 2 else 1)
    belowRun := if decide (code.toNat < 2800) then min (m.belowRun + 1) 255 else 0
    aboveRun := if decide (code.toNat < 2800) then 0 else min (m.aboveRun + 1) 255 } := by
  have hslot : slotAfter (if m.scanSlot.val % 2 = 0 then m.scanSlot.val + 1 else m.scanSlot.val)
      = Fin.ofNat 8 (m.scanSlot.val + if m.scanSlot.val % 2 = 0 then 2 else 1) := by
    unfold slotAfter
    split <;> rfl
  unfold Measurement.supply
  dsimp only
  rw [hslot]
  by_cases hlow : code.toNat < 2800
  · simp only [Config.supplyThreshold, if_pos hlow, decide_eq_true hlow, if_true]
  · simp only [Config.supplyThreshold, if_neg hlow, decide_eq_false hlow, Bool.false_eq_true,
      if_false]

theorem Store.drained_iff {st : Store} : st.drained = true ↔
    st.firstClass = [] ∧ st.secondClass = [] ∧ st.flight = none := by
  simp [Store.drained, and_assoc]

theorem exec_supplyCompletion {s : State} (hrun : s.resetAsserted = false) (code : BitVec 12) :
    exec (.supplyCompletion code) s
      = .next (({ s with meas := s.meas.supply code } : State).watchSupply).finish := by
  show execSupplyCompletion code s = _
  unfold execSupplyCompletion
  rw [State.quiet_of_running hrun]

theorem State.watchSupply_stays {s : State} (hpark : s.park.state ≠ .powerFail)
    (hbelow : s.meas.belowRun ≠ 2) : s.watchSupply = s := by
  rw [State.watchSupply, if_pos hpark, if_neg hbelow]

theorem State.watchSupply_fails {s : State} (hpark : s.park.state ≠ .powerFail)
    (hbelow : s.meas.belowRun = 2) : s.watchSupply = s.failed.recompute := by
  rw [State.watchSupply, if_pos hpark, if_pos hbelow, State.enterPowerFail_eq]

theorem State.watchSupply_waits {s : State} (hpark : s.park.state = .powerFail)
    (hwait : 20 ≤ s.meas.aboveRun → ¬ s.store.drained = true) : s.watchSupply = s := by
  rw [State.watchSupply, if_neg (not_not.mpr hpark), if_neg]
  rw [Bool.and_eq_true, decide_eq_true_iff]
  exact fun ⟨habove, hdrained⟩ => hwait habove hdrained

theorem State.watchSupply_restarts {s : State} (hpark : s.park.state = .powerFail)
    (habove : 20 ≤ s.meas.aboveRun) (hdrained : s.store.drained = true) :
    s.watchSupply = s.restart := by
  rw [State.watchSupply, if_neg (not_not.mpr hpark), if_pos]
  rw [Bool.and_eq_true, decide_eq_true_iff]
  exact ⟨habove, hdrained⟩

/-! ### The theorem -/

/-- R24, R181: what the entry to POWER_FAIL leaves at the end of its event. -/
theorem State.failed_finish (s : State) : ∃ t, t = s.failed.recompute.finish
    ∧ t.park.state = .powerFail ∧ t.park.startStep = none
    ∧ (cell t.site.notices 5).pending = true ∧ t.meas = s.meas ∧ t.time = s.time ∧ t.loop = s.loop
    ∧ (∀ p, t.session p = none ∧ (t.entry p).target = 0 ∧ (t.entry p).grant = 0
      ∧ (t.entry p).rampTimer = none)
    ∧ (∀ p, t.slot p = (s.slot p).failed)
    ∧ (∀ p x, s.session p = some x → x.state = .authorising → p ∉ t.account.authQueue)
    ∧ t.account.nextClose = s.failed.account.nextClose ∧ t.store.queue = s.failed.store.queue
    ∧ (s.park.openCount = s.occupied → t.park.openCount = 0) := by
  have hfails := s.failed_fails
  obtain ⟨hstate, hstep, hnotice⟩ := s.failed_park
  refine ⟨_, rfl, ?_⟩
  simp only [State.finish_park, State.recompute_park, State.finish_meas, State.recompute_meas,
    State.finish_time, State.recompute_time, State.finish_loop, State.recompute_loop,
    State.finish_account, State.recompute_account, State.finish_queue, State.recompute_store,
    State.session_finish, State.session_recompute, State.entry_finish, State.slot_finish,
    State.slot_recompute, State.finish_parkNotice, State.recompute_site]
  refine ⟨hstate, hstep, hnotice, hfails.meas, hfails.time, hfails.loop,
    fun p => ⟨State.fails_session hfails p, s.failed_entry p⟩, fun p => ?_, fun p x hx h hmem => ?_,
    True.intro, True.intro, State.failed_openCount⟩
  · rw [hfails.slot, if_pos (mem_pedestals p)]
    rfl
  · exact ((hfails.authQueue p).mp hmem).2 ⟨mem_pedestals p, x, hx, h⟩

/-- Settles O55. The power-fail close is followed pedestal by pedestal (`State.fails`), from the halted
machine on; the run counts are an equation of the Measurement Unit. -/
theorem supplyFailsAndRestarts : Obligations.SupplyFailsAndRestarts := by
  unfold Obligations.SupplyFailsAndRestarts
  intro s code hrun low below above counted drained
  have hcounted : ({ s with meas := s.meas.supply code } : State) = counted := by
    rw [Measurement.supply_eq]
  rw [exec_supplyCompletion hrun, hcounted]
  refine ⟨fun hpark hbelow => ?_, fun hpark hbelow => ?_, fun hpark hwait => ?_,
    fun hpark habove hdrained => ?_⟩
  · rw [State.watchSupply_stays (s := counted) hpark hbelow]
  · rw [State.watchSupply_fails (s := counted) hpark hbelow]
    have hfails := counted.failed_fails
    obtain ⟨t, ht, hstate, hstep, hnotice, hmeas, htime, hloop, hfree, hslot, hqueued, hnext, hqueue,
      hcount⟩ := counted.failed_finish
    refine ⟨t, congrArg Host.Outcome.next ht.symm, hstate, hstep, hnotice, hmeas, htime, hloop, hfree,
      fun p hp => ?_, fun p x hx hx' => ⟨?_, hqueued p x hx hx'⟩, fun p x hx hx' => ⟨?_, ?_⟩, hcount,
      ?_, fun hbelow' => ?_⟩
    · exact (hslot p).trans (SessionSlot.failed_of_free hp)
    · exact (hslot p).trans (SessionSlot.failed_of_authorising hx hx')
    · exact (hslot p).trans (SessionSlot.failed_of_authorised hx hx')
    · rw [hqueue]
      exact State.fails_record hfails (mem_pedestals p) hx hx'
    · rw [hnext]
      exact hfails.nextClose
    · rw [hqueue]
      exact State.fails_added (s := counted.halted) hfails hbelow'
  · rw [State.watchSupply_waits (s := counted) hpark
      fun habove => Store.drained_iff.not.mpr (hwait habove)]
  · rw [State.watchSupply_restarts (s := counted) hpark habove (Store.drained_iff.mpr hdrained)]
    rfl

end Sys2Proof.Machine
end

section
/-! SUPPORT. Stages 3 to 5 of a recompute (R34 to R37): the list as a rearrangement of the bids, the
increments of a round, and what leaves the remainders as it joins the shares. -/

namespace Sys2Proof.Machine
open Sys2Proof

/-! ### Sums over the pedestals -/

/-- A sum over all pedestals of which only those of a list count. -/
theorem sum_pedestals_of_support {l : List Pedestal} (hl : l.Nodup) {w : Pedestal → Nat}
    (hw : ∀ p, p ∉ l → w p = 0) : (pedestals.map w).sum = (l.map w).sum := by
  have hall : pedestals = List.finRange 16 := by decide
  rw [hall, ← Fin.sum_univ_def, ← List.sum_toFinset w hl]
  exact (Finset.sum_subset l.toFinset.subset_univ fun p _ hp =>
    hw p (by simpa using hp)).symm

/-! ### The list (R34) -/

theorem insertBid_eq (x : Bid) (l : List Bid) :
    insertBid x l = l.orderedInsert (fun y z => y.before z = true) x := by
  induction l with
  | nil => rfl
  | cons y rest ih => rw [insertBid, List.orderedInsert_cons, ih]

theorem sortBids_eq (l : List Bid) :
    l.foldr insertBid [] = l.insertionSort fun y z => y.before z = true := by
  induction l with
  | nil => rfl
  | cons x rest ih => rw [List.foldr_cons, ih, insertBid_eq, List.insertionSort_cons]

theorem State.bidList_perm (s : State) :
    s.bidList.Perm ((pedestals.map s.bidOf).filter fun b => decide (0 < b.demand)) := by
  rw [State.bidList, sortBids_eq]
  exact List.perm_insertionSort _ _

theorem State.bidList_nodup (s : State) : (s.bidList.map Bid.pedestal).Nodup := by
  rw [(s.bidList_perm.map Bid.pedestal).nodup_iff]
  refine List.Nodup.sublist (List.filter_sublist.map _) ?_
  rw [List.map_map]
  exact nodup_pedestals.map fun _ _ => id

theorem State.mem_bidList {s : State} {b : Bid} :
    b ∈ s.bidList ↔ ∃ p, 0 < s.demandOf p ∧ b = s.bidOf p := by
  rw [s.bidList_perm.mem_iff, List.mem_filter, List.mem_map, decide_eq_true_eq]
  constructor
  · rintro ⟨⟨p, -, rfl⟩, hdemand⟩
    exact ⟨p, hdemand, rfl⟩
  · rintro ⟨p, hdemand, rfl⟩
    exact ⟨⟨p, mem_pedestals p, rfl⟩, hdemand⟩

/-! ### The remainders -/

theorem Room.take_site (r : Room) (f : Feeder) (amount : Nat) :
    (r.take f amount).site = r.site - amount := rfl

theorem Room.feeder_take (r : Room) (f k : Feeder) (amount : Nat) :
    (r.take f amount).feeder k = if k = f then r.feeder k - amount else r.feeder k := by
  unfold Room.take
  rw [Room.feeder, cell_putCell]
  by_cases h : k = f
  · rw [h, if_pos rfl, if_pos rfl]
  · rw [if_neg h, if_neg fun e => h (Feeder.idx_injective e)]
    rfl

/-- The sum of the shares. -/
def totalShare (l : List Bid) : Nat := (l.map Bid.g).sum

/-- The sum of the shares of the pedestals of a feeder. -/
def feederShare (f : Feeder) (l : List Bid) : Nat :=
  (l.map fun b => if b.feeder = f then b.g else 0).sum

theorem totalShare_append (l k : List Bid) : totalShare (l ++ k) = totalShare l + totalShare k := by
  simp [totalShare]

theorem feederShare_append (f : Feeder) (l k : List Bid) :
    feederShare f (l ++ k) = feederShare f l + feederShare f k := by
  simp [feederShare]

/-- What has left the remainders has joined the shares. -/
structure Accounted (r : Room) (l : List Bid) (r' : Room) (l' : List Bid) : Prop where
  site : r'.site + totalShare l' = r.site + totalShare l
  feeder : ∀ f, r'.feeder f + feederShare f l' = r.feeder f + feederShare f l

theorem Accounted.refl (r : Room) (l : List Bid) : Accounted r l r l := ⟨rfl, fun _ => rfl⟩

theorem Accounted.trans {r₁ r₂ r₃ : Room} {l₁ l₂ l₃ : List Bid} (h : Accounted r₁ l₁ r₂ l₂)
    (k : Accounted r₂ l₂ r₃ l₃) : Accounted r₁ l₁ r₃ l₃ :=
  ⟨k.site.trans h.site, fun f => (k.feeder f).trans (h.feeder f)⟩

/-- The change of one list, then of the list behind it. -/
theorem Accounted.append {r₁ r₂ r₃ : Room} {l l' k k' : List Bid} (h : Accounted r₁ l r₂ l')
    (j : Accounted r₂ k r₃ k') : Accounted r₁ (l ++ k) r₃ (l' ++ k') := by
  refine ⟨?_, fun f => ?_⟩
  · have := h.site
    have := j.site
    rw [totalShare_append, totalShare_append]
    omega
  · have := h.feeder f
    have := j.feeder f
    rw [feederShare_append, feederShare_append]
    omega

/-- A bid with its share raised. -/
def Bid.gain (inc : Nat) (b : Bid) : Bid := { b with g := b.g + inc }

/-- A bid's share rises by what is taken from both remainders. -/
theorem Accounted.gain {r : Room} {b : Bid} {inc : Nat} (hsite : inc ≤ r.site)
    (hfeeder : inc ≤ r.feeder b.feeder) :
    Accounted r [b] (r.take b.feeder inc) [b.gain inc] := by
  refine ⟨?_, fun f => ?_⟩
  · simp only [totalShare, Bid.gain, Room.take_site, List.map_cons, List.map_nil, List.sum_cons,
      List.sum_nil]
    omega
  · simp only [feederShare, Bid.gain, Room.feeder_take, List.map_cons, List.map_nil, List.sum_cons,
      List.sum_nil]
    by_cases h : b.feeder = f
    · subst h
      simp only [if_true]
      omega
    · simp only [if_neg h, if_neg (Ne.symm h)]

/-! ### Admission (R35) -/

/-- R35: a bid admitted with its base. -/
def Bid.withBase (m : Nat) (b : Bid) : Bid := { b with g := b.base m }

theorem admission_cons_of_fits {m : Nat} {r : Room} {b : Bid} (h : b.fits m r = true)
    (rest : List Bid) : admission m r (b :: rest) =
      ((admission m (r.take b.feeder (b.base m)) rest).1,
        b.withBase m :: (admission m (r.take b.feeder (b.base m)) rest).2) := by
  rw [admission, if_pos h]
  rfl

theorem admission_cons_of_not_fits {m : Nat} {r : Room} {b : Bid} (h : b.fits m r = false)
    (rest : List Bid) : admission m r (b :: rest) = admission m r rest := by
  rw [admission, if_neg (by simp [h])]

theorem Bid.fits_iff {m : Nat} {r : Room} {b : Bid} :
    b.fits m r = true ↔ b.base m ≤ r.site ∧ b.base m ≤ r.feeder b.feeder := by
  simp [Bid.fits]

/-- R35: an admitted pedestal is one of the list, with its base. -/
theorem exists_of_mem_admission {m : Nat} {r : Room} {l : List Bid} {b : Bid}
    (h : b ∈ (admission m r l).2) : ∃ x ∈ l, b = x.withBase m := by
  induction l generalizing r with
  | nil => cases h
  | cons y rest ih =>
    cases hfits : y.fits m r with
    | true =>
      rw [admission_cons_of_fits hfits, List.mem_cons] at h
      obtain rfl | h := h
      · exact ⟨y, List.mem_cons_self, rfl⟩
      · obtain ⟨x, hx, hb⟩ := ih h
        exact ⟨x, List.mem_cons_of_mem _ hx, hb⟩
    | false =>
      rw [admission_cons_of_not_fits hfits] at h
      obtain ⟨x, hx, hb⟩ := ih h
      exact ⟨x, List.mem_cons_of_mem _ hx, hb⟩

/-- R35: the bases of the admitted pedestals are what admission takes. -/
theorem admission_accounted (m : Nat) (r : Room) (l : List Bid) :
    Accounted r [] (admission m r l).1 (admission m r l).2 := by
  induction l generalizing r with
  | nil => exact .refl r []
  | cons b rest ih =>
    cases hfits : b.fits m r with
    | true =>
      rw [admission_cons_of_fits hfits]
      obtain ⟨hsite, hfeeder⟩ := Bid.fits_iff.mp hfits
      have hbase : Accounted r [] (r.take b.feeder (b.base m)) [b.withBase m] := by
        have hgain := Accounted.gain (b := { b with g := 0 }) hsite hfeeder
        refine ⟨?_, fun f => ?_⟩
        · simpa [Bid.withBase, Bid.gain, totalShare] using hgain.site
        · simpa [Bid.withBase, Bid.gain, feederShare] using hgain.feeder f
      exact hbase.append (ih _)
    | false =>
      rw [admission_cons_of_not_fits hfits]
      exact ih r

/-! ### A round (R37) -/

/-- R37, step 4: the increment of a pedestal. -/
def Bid.increment (start : Room) (share : Nat) (r : Room) (b : Bid) : Nat :=
  if b.inU start && decide (0 < r.site) then min (b.demand - b.g) (min share (r.feeder b.feeder)) else 0

theorem shareRound_cons (start : Room) (share : Nat) (r : Room) (b : Bid) (rest : List Bid) :
    shareRound start share r (b :: rest) =
      ((shareRound start share (r.take b.feeder (b.increment start share r)) rest).1,
        b.gain (b.increment start share r)
          :: (shareRound start share (r.take b.feeder (b.increment start share r)) rest).2) := rfl

theorem Bid.increment_of_not_inU {start : Room} {b : Bid} (h : b.inU start = false) (share : Nat)
    (r : Room) : b.increment start share r = 0 := by
  simp [Bid.increment, h]

theorem Bid.increment_of_inU {start : Room} {b : Bid} (h : b.inU start = true) (share : Nat)
    (r : Room) : b.increment start share r =
      if r.site = 0 then 0 else min (b.demand - b.g) (min share (r.feeder b.feeder)) := by
  by_cases hsite : r.site = 0
  · simp [Bid.increment, hsite]
  · simp [Bid.increment, h, hsite, Nat.pos_of_ne_zero hsite]

theorem Bid.increment_le_demand (start : Room) (share : Nat) (r : Room) (b : Bid) :
    b.increment start share r ≤ b.demand - b.g := by
  unfold Bid.increment
  split
  · exact Nat.min_le_left _ _
  · exact Nat.zero_le _

theorem Bid.increment_le_feeder (start : Room) (share : Nat) (r : Room) (b : Bid) :
    b.increment start share r ≤ r.feeder b.feeder := by
  unfold Bid.increment
  split
  · exact (Nat.min_le_right _ _).trans (Nat.min_le_right _ _)
  · exact Nat.zero_le _

theorem Bid.increment_le_share (start : Room) (share : Nat) (r : Room) (b : Bid) :
    b.increment start share r ≤ share := by
  unfold Bid.increment
  split
  · exact (Nat.min_le_right _ _).trans (Nat.min_le_left _ _)
  · exact Nat.zero_le _

/-- R37, step 1: U, at the start of a round. -/
def takersOf (start : Room) (l : List Bid) : List Bid := l.filter (Bid.inU start)

/-- R37, step 3: the site remainder has a unit or the share of the round for each pedestal of U whose
turn is still to come. -/
def Room.covers (r : Room) (share waiting : Nat) : Prop := share = 1 ∨ waiting * share ≤ r.site

theorem Room.covers_share (r : Room) (waiting : Nat) : r.covers (max 1 (r.site / waiting)) waiting := by
  obtain h | h := Nat.le_total (r.site / waiting) 1
  · exact .inl (Nat.max_eq_left h)
  · exact .inr (by rw [Nat.max_eq_right h]; exact Nat.mul_div_le _ _)

/-- R37: no increment is above the site remainder. -/
theorem Bid.increment_le_site {start r : Room} {share : Nat} {b : Bid} {rest : List Bid}
    (h : r.covers share (takersOf start (b :: rest)).length) : b.increment start share r ≤ r.site := by
  have hshare := b.increment_le_share start share r
  cases hu : b.inU start with
  | false => simp [Bid.increment_of_not_inU hu]
  | true =>
    by_cases hsite : r.site = 0
    · simp [Bid.increment_of_inU hu, hsite]
    · obtain h | h := h
      · omega
      · rw [takersOf, List.filter_cons_of_pos hu, List.length_cons, Nat.succ_mul] at h
        omega

theorem Room.covers_take {start r : Room} {share : Nat} {b : Bid} {rest : List Bid}
    (h : r.covers share (takersOf start (b :: rest)).length) :
    (r.take b.feeder (b.increment start share r)).covers share (takersOf start rest).length := by
  obtain h | h := h
  · exact .inl h
  · refine .inr ?_
    rw [Room.take_site]
    cases hu : b.inU start with
    | false =>
      rw [takersOf, List.filter_cons_of_neg (by simp [hu])] at h
      rwa [Bid.increment_of_not_inU hu, Nat.sub_zero]
    | true =>
      have hshare := b.increment_le_share start share r
      rw [takersOf, List.filter_cons_of_pos hu, List.length_cons, Nat.succ_mul] at h
      change (takersOf start rest).length * share + share ≤ r.site at h
      omega

theorem shareRound_accounted {start r : Room} {share : Nat} {l : List Bid}
    (h : r.covers share (takersOf start l).length) :
    Accounted r l (shareRound start share r l).1 (shareRound start share r l).2 := by
  induction l generalizing r with
  | nil => exact .refl r []
  | cons b rest ih =>
    rw [shareRound_cons]
    exact (Accounted.gain (Bid.increment_le_site h) (b.increment_le_feeder start share r)).append
      (ih (Room.covers_take h))

theorem shareRound_site_le (start : Room) (share : Nat) (r : Room) (l : List Bid) :
    (shareRound start share r l).1.site ≤ r.site := by
  induction l generalizing r with
  | nil => exact le_rfl
  | cons b rest ih => exact (ih _).trans (Nat.sub_le _ _)

/-- R37: a round with pedestals in U takes at least a unit from the site remainder. -/
theorem shareRound_site_lt {start r : Room} {share : Nat} {l : List Bid} (hshare : 1 ≤ share)
    (hsite : r.site ≠ 0) (hfeeders : ∀ f, r.feeder f = start.feeder f) (hu : takersOf start l ≠ []) :
    (shareRound start share r l).1.site < r.site := by
  induction l generalizing r with
  | nil => exact absurd rfl hu
  | cons b rest ih =>
    rw [shareRound_cons]
    cases hb : b.inU start with
    | true =>
      refine (shareRound_site_le _ _ _ _).trans_lt ?_
      have hroom : b.g < b.demand ∧ 0 < r.feeder b.feeder := by
        simpa [Bid.inU, hfeeders] using hb
      rw [Room.take_site, Bid.increment_of_inU hb, if_neg hsite]
      omega
    | false =>
      rw [takersOf, List.filter_cons_of_neg (by simp [hb])] at hu
      rw [Bid.increment_of_not_inU hb]
      refine ih hsite (fun f => ?_) hu
      rw [Room.feeder_take, Nat.sub_zero, ite_self, hfeeders]

/-! ### The rounds of a class, and the classes (R36, R37) -/

theorem shareClass_ends {r : Room} {l : List Bid} (h : takersOf r l = [] ∨ r.site = 0) (fuel : Nat) :
    shareClass fuel r l = (r, l) := by
  cases fuel with
  | zero => rfl
  | succ fuel =>
    have hends : (decide ((l.filter (Bid.inU r)).length = 0) || decide (r.site = 0)) = true := by
      simpa [takersOf] using h
    simp only [shareClass]
    rw [if_pos (by simpa using hends)]

theorem shareClass_round {r : Room} {l : List Bid} (hu : takersOf r l ≠ []) (hsite : r.site ≠ 0)
    (fuel : Nat) : shareClass (fuel + 1) r l =
      shareClass fuel (shareRound r (max 1 (r.site / (takersOf r l).length)) r l).1
        (shareRound r (max 1 (r.site / (takersOf r l).length)) r l).2 := by
  simp only [shareClass]
  rw [if_neg]
  · rfl
  · simpa [takersOf, hsite] using hu

/-- The rounds of a class, one after the other: what is kept from the start of a round to its end is kept
by them all. -/
theorem shareClass_keeps {P : Room → List Bid → Prop}
    (hround : ∀ r l, takersOf r l ≠ [] → r.site ≠ 0 → P r l →
      P (shareRound r (max 1 (r.site / (takersOf r l).length)) r l).1
        (shareRound r (max 1 (r.site / (takersOf r l).length)) r l).2)
    (fuel : Nat) {r : Room} {l : List Bid} (h : P r l) :
    P (shareClass fuel r l).1 (shareClass fuel r l).2 := by
  induction fuel generalizing r l with
  | zero => exact h
  | succ fuel ih =>
    by_cases hends : takersOf r l = [] ∨ r.site = 0
    · rw [shareClass_ends hends]
      exact h
    · obtain ⟨hu, hsite⟩ := not_or.mp hends
      rw [shareClass_round hu hsite]
      exact ih (hround r l hu hsite h)

theorem shareClass_accounted (fuel : Nat) (r : Room) (l : List Bid) :
    Accounted r l (shareClass fuel r l).1 (shareClass fuel r l).2 :=
  shareClass_keeps (P := Accounted r l)
    (fun x _ _ _ h => h.trans (shareRound_accounted (x.covers_share _))) fuel (.refl r l)

/-- The bids of a class. -/
def classOfBids (c : Fin 4) (l : List Bid) : List Bid := l.filter fun b => decide (b.cls = c)

theorem shareClasses_cons (c : Fin 4) (rest : List (Fin 4)) (r : Room) (l : List Bid) :
    shareClasses (c :: rest) r l = (shareClass r.site r (classOfBids c l)).2
      ++ shareClasses rest (shareClass r.site r (classOfBids c l)).1 l := rfl

theorem shareClasses_accounted (classes : List (Fin 4)) (r : Room) (l : List Bid) :
    ∃ r', Accounted r (classes.flatMap fun c => classOfBids c l) r' (shareClasses classes r l) := by
  induction classes generalizing r with
  | nil => exact ⟨r, .refl r []⟩
  | cons c rest ih =>
    obtain ⟨r', h⟩ := ih (shareClass r.site r (classOfBids c l)).1
    exact ⟨r', (shareClass_accounted r.site r (classOfBids c l)).append h⟩

/-- A property of a bid that a share's rise up to the demand keeps. -/
def Bid.Kept (P : Bid → Prop) : Prop := ∀ b inc, inc ≤ b.demand - b.g → P b → P (b.gain inc)

theorem shareRound_forall {P : Bid → Prop} (hP : Bid.Kept P) {start r : Room} {share : Nat}
    {l : List Bid} (h : ∀ b ∈ l, P b) : ∀ b ∈ (shareRound start share r l).2, P b := by
  induction l generalizing r with
  | nil => exact h
  | cons x rest ih =>
    rw [List.forall_mem_cons] at h
    rw [shareRound_cons, List.forall_mem_cons]
    exact ⟨hP x _ (x.increment_le_demand start share r) h.1, ih h.2⟩

theorem shareClass_forall {P : Bid → Prop} (hP : Bid.Kept P) {fuel : Nat} {r : Room}
    {l : List Bid} (h : ∀ b ∈ l, P b) : ∀ b ∈ (shareClass fuel r l).2, P b :=
  shareClass_keeps (P := fun _ l => ∀ b ∈ l, P b) (fun _ _ _ _ => shareRound_forall hP) fuel h

theorem shareClasses_forall {P : Bid → Prop} (hP : Bid.Kept P) {classes : List (Fin 4)} {r : Room}
    {l : List Bid} (h : ∀ b ∈ l, P b) : ∀ b ∈ shareClasses classes r l, P b := by
  induction classes generalizing r with
  | nil => exact fun b hb => by cases hb
  | cons c rest ih =>
    rw [shareClasses_cons, List.forall_mem_append]
    exact ⟨shareClass_forall hP fun b hb => h b (List.mem_of_mem_filter hb), ih⟩

theorem shareClasses_pedestals_eq (classes : List (Fin 4)) (r : Room) (l : List Bid) :
    (shareClasses classes r l).map Bid.pedestal
      = (classes.flatMap fun c => classOfBids c l).map Bid.pedestal := by
  induction classes generalizing r with
  | nil => rfl
  | cons c rest ih =>
    rw [shareClasses_cons, List.map_append, shareClass_pedestals, ih, List.flatMap_cons,
      List.map_append]

/-- R36: the four classes hold every bid once. -/
theorem classes_perm (l : List Bid) :
    ([0, 1, 2, 3].flatMap fun c => classOfBids c l).Perm l := by
  refine List.perm_iff_count.mpr fun b => ?_
  have hcls : b.cls = 0 ∨ b.cls = 1 ∨ b.cls = 2 ∨ b.cls = 3 := by
    obtain ⟨n, hn⟩ := b.cls
    simp only [Fin.ext_iff]
    omega
  have hcount (c : Fin 4) :
      (classOfBids c l).count b = if b.cls = c then l.count b else 0 := by
    split
    · next h => exact List.count_filter (by simpa using h)
    · next h => exact List.count_eq_zero.mpr fun hb => h (by simpa using List.of_mem_filter hb)
  simp only [List.flatMap_cons, List.flatMap_nil, List.count_append, List.count_nil, hcount]
  obtain h | h | h | h := hcls <;> simp [h]

end Sys2Proof.Machine
end

section
/-! SUPPORT. The allotment that a recompute makes (R30 to R38): the shares of the listed pedestals within
their demands and the ceilings, and each entry after the grant rules (R48 to R50, R56). -/

namespace Sys2Proof.Machine
open Sys2Proof

/-! ### The shares (R34 to R37) -/

/-- R33: the remainders before admission: the site ceiling and the effective ceilings. -/
def State.ceilings (s : State) : Room :=
  { site := s.allot.siteCeiling, feeders := mapCells (fun _ f => f.ceilingNow) s.allot.feeders }

theorem State.feeder_ceilings (s : State) (f : Feeder) :
    s.ceilings.feeder f = (s.feeder f).ceilingNow :=
  cell_mapCells _ _ _

/-- R35: the remainders after a walk of a list from the ceilings, and the pedestals admitted on it. -/
def State.walk (s : State) (l : List Bid) : Room × List Bid :=
  admission s.allot.parameters.minGrant s.ceilings l

/-- R35: the remainders after admission, and the admitted pedestals with their bases. -/
def State.walked (s : State) : Room × List Bid := s.walk s.bidList

theorem State.allotted_eq (s : State) :
    s.allotted = shareClasses [0, 1, 2, 3] s.walked.1 s.walked.2 := rfl

/-- R34, R35, R37: the bid of a listed pedestal, its share between its base and its demand. -/
structure Bid.soundFor (s : State) (b : Bid) : Prop where
  demand : b.demand = s.demandOf b.pedestal
  feeder : b.feeder = (s.entry b.pedestal).cfg.feeder
  cls : b.cls = (s.entry b.pedestal).cfg.cls
  session : b.session = s.sessionNumber b.pedestal
  listed : 0 < b.demand
  base : min b.demand s.allot.parameters.minGrant ≤ b.g
  bound : b.g ≤ b.demand

theorem Bid.soundFor_kept (s : State) : Bid.Kept (Bid.soundFor s) := fun b inc hinc h => by
  obtain ⟨hdemand, hfeeder, hcls, hsession, hlisted, hbase, hbound⟩ := h
  refine ⟨hdemand, hfeeder, hcls, hsession, hlisted, hbase.trans (Nat.le_add_right _ _), ?_⟩
  show b.g + inc ≤ b.demand
  omega

theorem State.exists_of_mem_walked {s : State} {b : Bid} (h : b ∈ s.walked.2) :
    ∃ p, 0 < s.demandOf p ∧ b = (s.bidOf p).withBase s.allot.parameters.minGrant := by
  obtain ⟨x, hx, rfl⟩ := exists_of_mem_admission h
  obtain ⟨p, hdemand, rfl⟩ := State.mem_bidList.mp hx
  exact ⟨p, hdemand, rfl⟩

theorem State.walked_sound {s : State} : ∀ b ∈ s.walked.2, b.soundFor s := fun b hb => by
  obtain ⟨p, hdemand, rfl⟩ := State.exists_of_mem_walked hb
  exact ⟨rfl, rfl, rfl, rfl, hdemand, le_rfl, Nat.min_le_left _ _⟩

theorem State.allotted_sound {s : State} : ∀ b ∈ s.allotted, b.soundFor s :=
  shareClasses_forall (Bid.soundFor_kept s) State.walked_sound

theorem State.walked_nodup (s : State) : (s.walked.2.map Bid.pedestal).Nodup :=
  s.bidList_nodup.sublist (admission_pedestals _ _ _)

theorem State.allotted_pedestals_perm (s : State) :
    (s.allotted.map Bid.pedestal).Perm (s.walked.2.map Bid.pedestal) := by
  rw [State.allotted_eq, shareClasses_pedestals_eq]
  exact (classes_perm _).map _

theorem State.allotted_nodup (s : State) : (s.allotted.map Bid.pedestal).Nodup :=
  s.allotted_pedestals_perm.nodup_iff.mpr s.walked_nodup

/-- R33, R35 to R37: what the pedestals were given and what is left is the ceilings. -/
theorem State.allotted_accounted (s : State) : ∃ r, Accounted s.ceilings [] r s.allotted := by
  obtain ⟨r, hshared⟩ := shareClasses_accounted [0, 1, 2, 3] s.walked.1 s.walked.2
  have hadmitted : Accounted s.ceilings [] s.walked.1 s.walked.2 := admission_accounted _ _ _
  have hperm := classes_perm s.walked.2
  refine ⟨r, hadmitted.trans ⟨hshared.site.trans ?_, fun f => (hshared.feeder f).trans ?_⟩⟩
  · rw [totalShare, (hperm.map _).sum_eq, ← totalShare]
  · rw [feederShare, (hperm.map _).sum_eq, ← feederShare]

/-! ### The share of a pedestal -/

theorem shareOf_isSome_iff {p : Pedestal} {l : List Bid} :
    (shareOf p l).isSome = true ↔ p ∈ l.map Bid.pedestal := by
  induction l with
  | nil => simp [shareOf]
  | cons b rest ih =>
    rw [shareOf, List.map_cons, List.mem_cons]
    split
    · next h => simp [h]
    · next h => rw [ih, or_iff_right (Ne.symm h)]

theorem shareOf_of_mem {b : Bid} {l : List Bid} (hl : (l.map Bid.pedestal).Nodup) (h : b ∈ l) :
    shareOf b.pedestal l = some b.g := by
  induction l with
  | nil => cases h
  | cons x rest ih =>
    rw [List.map_cons, List.nodup_cons] at hl
    rw [shareOf]
    obtain rfl | h := List.mem_cons.mp h
    · exact if_pos rfl
    · have hne : x.pedestal ≠ b.pedestal := fun e => hl.1 (e ▸ List.mem_map_of_mem h)
      rw [if_neg hne, ih hl.2 h]

/-- A sum over the shares is one over the pedestals. -/
theorem sum_shareOf {l : List Bid} (hl : (l.map Bid.pedestal).Nodup) (keep : Pedestal → Prop)
    [DecidablePred keep] :
    (pedestals.map fun p => if keep p then (shareOf p l).getD 0 else 0).sum
      = (l.map fun b => if keep b.pedestal then b.g else 0).sum := by
  rw [sum_pedestals_of_support hl, List.map_map]
  · refine congrArg List.sum (List.map_congr_left fun b hb => ?_)
    simp only [Function.comp_apply, shareOf_of_mem hl hb, Option.getD_some]
  · intro p hp
    rw [shareOf_eq_none hp, Option.getD_none, ite_self]

/-! ### The effective demand (R31, R32) -/

theorem State.demandOf_le_cap (s : State) (p : Pedestal) : s.demandOf p ≤ (s.entry p).cfg.cap := by
  have hasked : min (s.loopEntry p).request (s.entry p).cfg.cap ≤ (s.entry p).cfg.cap :=
    Nat.min_le_right _ _
  unfold State.demandOf
  dsimp only
  repeat' split
  all_goals omega

/-! ### The grant rules (R48 to R50, R56) -/

theorem AllotEntry.follow_of_le (q : Parameters) {e : AllotEntry} (h : e.target ≤ e.grant) :
    AllotEntry.follow q e = { e.writeGrant e.target with rampTimer := none } :=
  if_pos h

theorem AllotEntry.follow_hard (q : Parameters) {e : AllotEntry} (h : e.grant < e.target)
    (hmode : e.cfg.rampMode = .hard) :
    AllotEntry.follow q e = { e.writeGrant e.target with rampTimer := none } := by
  simp only [AllotEntry.follow, if_neg h.not_ge, hmode]

theorem AllotEntry.follow_soft (q : Parameters) {e : AllotEntry} (h : e.grant < e.target)
    (hmode : e.cfg.rampMode = .soft) :
    AllotEntry.follow q e = { e.writeGrant (e.jump q.minGrant) with
      rampTimer := if e.jump q.minGrant < e.target then e.armed (rampPeriod q) else none } := by
  simp only [AllotEntry.follow, if_neg h.not_ge, hmode]

theorem AllotEntry.jump_eq (e : AllotEntry) (m : Nat) : e.jump m = max e.grant (min e.target m) := by
  unfold AllotEntry.jump
  split <;> omega

theorem AllotEntry.armed_eq (e : AllotEntry) (period : Nat) :
    e.armed period = some (e.rampTimer.getD period) := by
  unfold AllotEntry.armed
  cases e.rampTimer <;> rfl

/-- R48 to R50, R56: the grant rules write the grant, within the target, the peak and the ramp timer. -/
theorem AllotEntry.follow_eq (q : Parameters) (e : AllotEntry) : ∃ g timer, g ≤ e.target
    ∧ AllotEntry.follow q e = { e.writeGrant g with rampTimer := timer } := by
  by_cases hle : e.target ≤ e.grant
  · exact ⟨_, _, le_rfl, AllotEntry.follow_of_le q hle⟩
  · cases hmode : e.cfg.rampMode with
    | hard => exact ⟨_, _, le_rfl, AllotEntry.follow_hard q (Nat.lt_of_not_le hle) hmode⟩
    | soft =>
      refine ⟨_, _, ?_, AllotEntry.follow_soft q (Nat.lt_of_not_le hle) hmode⟩
      rw [AllotEntry.jump_eq]
      omega

/-! ### The entries after a recompute (R38) -/

/-- R38: an entry with its new demand, admitted flag and target, before the grant rules. -/
def State.targeted (s : State) (p : Pedestal) : AllotEntry :=
  { s.entry p with
    demand := s.demandOf p
    admitted := (shareOf p s.allotted).isSome
    target := (shareOf p s.allotted).getD 0 }

theorem State.entry_recompute_follow (s : State) (p : Pedestal) :
    s.recompute.entry p = AllotEntry.follow s.allot.parameters (s.targeted p) :=
  s.entry_recompute_eq p

/-- R38, R48, R56: what of an entry a recompute writes; the grant stays within the target. -/
theorem State.entry_recompute_written (s : State) (p : Pedestal) : ∃ g timer,
    g ≤ (s.targeted p).target
      ∧ s.recompute.entry p = { (s.targeted p).writeGrant g with rampTimer := timer } := by
  rw [State.entry_recompute_follow]
  exact AllotEntry.follow_eq _ _

section
variable (s : State) (p : Pedestal)

@[simp] theorem State.recompute_entry_cfg : (s.recompute.entry p).cfg = (s.entry p).cfg := by
  obtain ⟨g, timer, -, h⟩ := s.entry_recompute_written p
  rw [h]
  rfl

@[simp] theorem State.recompute_entry_tracking :
    (s.recompute.entry p).tracking = (s.entry p).tracking := by
  obtain ⟨g, timer, -, h⟩ := s.entry_recompute_written p
  rw [h]
  rfl

@[simp] theorem State.recompute_entry_runCount :
    (s.recompute.entry p).runCount = (s.entry p).runCount := by
  obtain ⟨g, timer, -, h⟩ := s.entry_recompute_written p
  rw [h]
  rfl

@[simp] theorem State.recompute_entry_demand : (s.recompute.entry p).demand = s.demandOf p := by
  obtain ⟨g, timer, -, h⟩ := s.entry_recompute_written p
  rw [h]
  rfl

@[simp] theorem State.recompute_entry_admitted :
    (s.recompute.entry p).admitted = (shareOf p s.allotted).isSome := by
  obtain ⟨g, timer, -, h⟩ := s.entry_recompute_written p
  rw [h]
  rfl

@[simp] theorem State.recompute_entry_target :
    (s.recompute.entry p).target = (shareOf p s.allotted).getD 0 := by
  obtain ⟨g, timer, -, h⟩ := s.entry_recompute_written p
  rw [h]
  rfl

theorem State.recompute_entry_peak :
    (s.recompute.entry p).peak = max (s.entry p).peak (s.recompute.entry p).grant := by
  obtain ⟨g, timer, -, h⟩ := s.entry_recompute_written p
  rw [h]
  rfl

theorem State.recompute_grant_le_target :
    (s.recompute.entry p).grant ≤ (s.recompute.entry p).target := by
  obtain ⟨g, timer, hg, h⟩ := s.entry_recompute_written p
  rw [h]
  exact hg

theorem State.recompute_feeder (f : Feeder) :
    s.recompute.feeder f = { s.feeder f with effective := (s.feeder f).ceilingNow } :=
  cell_mapCells _ _ _

end

theorem State.recompute_admitted_iff {s : State} {p : Pedestal} :
    (s.recompute.entry p).admitted = true ↔ p ∈ s.walked.2.map Bid.pedestal := by
  rw [State.recompute_entry_admitted, shareOf_isSome_iff, s.allotted_pedestals_perm.mem_iff]

theorem State.recompute_target_of_not_admitted {s : State} {p : Pedestal}
    (h : (s.recompute.entry p).admitted = false) : (s.recompute.entry p).target = 0 := by
  rw [State.recompute_entry_admitted, Option.isSome_eq_false_iff, Option.isNone_iff_eq_none] at h
  rw [State.recompute_entry_target, h]
  rfl

/-- R35, R37: an admitted pedestal has a demand, and its target is between its base and its demand. -/
theorem State.recompute_target_of_admitted {s : State} {p : Pedestal}
    (h : (s.recompute.entry p).admitted = true) :
    0 < s.demandOf p ∧ min (s.demandOf p) s.allot.parameters.minGrant ≤ (s.recompute.entry p).target
      ∧ (s.recompute.entry p).target ≤ s.demandOf p := by
  rw [State.recompute_entry_admitted, shareOf_isSome_iff] at h
  obtain ⟨b, hb, rfl⟩ := List.mem_map.mp h
  obtain ⟨hdemand, -, -, -, hlisted, hbase, hbound⟩ := State.allotted_sound b hb
  rw [State.recompute_entry_target, shareOf_of_mem s.allotted_nodup hb, Option.getD_some, ← hdemand]
  exact ⟨hlisted, hbase, hbound⟩

theorem State.recompute_target_le_demand (s : State) (p : Pedestal) :
    (s.recompute.entry p).target ≤ (s.recompute.entry p).demand := by
  rw [State.recompute_entry_demand]
  cases h : (s.recompute.entry p).admitted with
  | true => exact (State.recompute_target_of_admitted h).2.2
  | false =>
    rw [State.recompute_target_of_not_admitted h]
    exact Nat.zero_le _

/-! ### The ceilings (R33, R37) -/

theorem State.recompute_feederTargets_le (s : State) (f : Feeder) :
    s.recompute.feederTargets f ≤ (s.recompute.feeder f).effective := by
  obtain ⟨r, hr⟩ := s.allotted_accounted
  have hsum : s.recompute.feederTargets f = feederShare f s.allotted := by
    simp only [State.feederTargets, State.recompute_entry_cfg, State.recompute_entry_target]
    rw [sum_shareOf s.allotted_nodup fun p => (s.entry p).cfg.feeder = f, feederShare]
    refine congrArg List.sum (List.map_congr_left fun b hb => ?_)
    rw [(State.allotted_sound b hb).feeder]
  have hkept := hr.feeder f
  rw [State.feeder_ceilings, show feederShare f [] = 0 from rfl] at hkept
  rw [hsum, State.recompute_feeder]
  show _ ≤ (s.feeder f).ceilingNow
  omega

theorem State.recompute_siteTargets_le (s : State) :
    s.recompute.siteTargets ≤ s.allot.siteCeiling := by
  obtain ⟨r, hr⟩ := s.allotted_accounted
  have hsum : s.recompute.siteTargets = totalShare s.allotted := by
    simpa only [State.siteTargets, State.recompute_entry_target, totalShare, if_true]
      using sum_shareOf s.allotted_nodup fun _ => True
  have hkept := hr.site
  rw [show totalShare [] = 0 from rfl] at hkept
  rw [hsum]
  show _ ≤ s.ceilings.site
  omega

/-! ### The laws of order and of ceilings, established -/

theorem State.recompute_orderLaw (s : State) : OrderLaw s.recompute := fun p => by
  refine ⟨s.recompute_grant_le_target p, s.recompute_target_le_demand p, ?_⟩
  rw [State.recompute_entry_demand, State.recompute_entry_cfg]
  exact s.demandOf_le_cap p

theorem State.recompute_ceilingLaw (s : State) : CeilingLaw s.recompute :=
  ⟨s.recompute_feederTargets_le, s.recompute_siteTargets_le, s.recompute_grant_le_target⟩

end Sys2Proof.Machine
end

section
/-! SUPPORT. The step laws of order (O6) and of ceilings (O9): no move raises a grant above its target or
changes another side of either law, and a recompute establishes both outright. -/

namespace Sys2Proof.Machine
open Sys2Proof

/-! ### A move's change of an entry and of the ceilings -/

/-- No move changes the configuration, the demand or the target (R38), and none raises a grant above its
target (R52). -/
theorem EntryMove.bounded {q : Parameters} {x y : AllotEntry} (h : EntryMove q x y) :
    y.cfg = x.cfg ∧ y.demand = x.demand ∧ y.target = x.target
      ∧ (x.grant ≤ x.target → y.grant ≤ y.target) := by
  cases h with
  | same | advance | resetPeak => exact ⟨rfl, rfl, rfl, id⟩
  | endTracking =>
    unfold AllotEntry.endTracking
    split <;> exact ⟨rfl, rfl, rfl, id⟩
  | offerDraw delivering draw =>
    unfold AllotEntry.offerDraw
    repeat' split
    all_goals exact ⟨rfl, rfl, rfl, id⟩
  | rampStep => exact ⟨rfl, rfl, rfl, fun _ => Nat.min_le_left _ _⟩

theorem EntryMove.inOrder {q : Parameters} {x y : AllotEntry} (h : EntryMove q x y)
    (hx : x.inOrder) : y.inOrder := by
  obtain ⟨hcfg, hdemand, htarget, hgrant⟩ := h.bounded
  obtain ⟨hx1, hx2, hx3⟩ := hx
  refine ⟨hgrant hx1, ?_, ?_⟩
  · rwa [htarget, hdemand]
  · rwa [hdemand, hcfg]

theorem TableMove.allotTables {s t : State} (h : TableMove s t) :
    t.allot.tables = s.allot.tables := by
  cases h with
  | advance | session | flags | authorises | resetsPeak | tracks | ramps => rfl
  | opens => rw [State.openSession_allot]
  | voids => rw [State.void_allot]
  | closes => exact State.close_tables _ _ _ _
  | stops => exact State.enterStopping_tables _ _ _
  | parks => exact State.enterParked_tables _ _ _

/-- R33: the ceilings that stand: each feeder's effective ceiling, and the site's. -/
def State.sameCeilings (t s : State) : Prop :=
  (∀ f, (t.feeder f).effective = (s.feeder f).effective)
    ∧ t.allot.siteCeiling = s.allot.siteCeiling

theorem State.sameCeilings_of_tables {s t : State} (h : t.allot.tables = s.allot.tables) :
    t.sameCeilings s :=
  ⟨fun f => congrArg FeederEntry.effective (State.feeder_congr (congrArg (·.1) h) f),
    congrArg (·.2.1) h⟩

theorem State.sameCeilings_of_allot {s t : State} (h : t.allot = s.allot) : t.sameCeilings s :=
  State.sameCeilings_of_tables (congrArg Allotment.tables h)

theorem FeederEntry.evaluate_effective (e : FeederEntry) (code : BitVec 12) :
    (e.evaluate code).effective = e.effective := by
  unfold FeederEntry.evaluate
  repeat' split
  all_goals rfl

/-- R69: a code changes the applied factor; the effective ceiling follows at the recompute. -/
theorem State.putFeeder_sameCeilings (s : State) (f : Feeder) {e : FeederEntry}
    (h : e.effective = (s.feeder f).effective) : (s.putFeeder f e).sameCeilings s := by
  refine ⟨fun g => ?_, rfl⟩
  by_cases hg : g = f
  · rw [hg, State.feeder_putFeeder_self, h]
  · rw [State.feeder_putFeeder_of_ne s e hg]

theorem State.endScan_allot (s : State) (aged : List (RecordSlot × SlotCells)) :
    (s.endScan aged).allot = s.allot := by
  unfold State.endScan
  dsimp only
  obtain ⟨x, tx, driver, hbegin⟩ := State.beginExchange_eq _ 0
  rw [hbegin, State.ageSlots_eq]
  rfl

/-- No move changes a ceiling (R28, R33). -/
theorem Move.sameCeilings {s t : State} (h : Move s t) : t.sameCeilings s := by
  cases h with
  | table h => exact State.sameCeilings_of_tables h.allotTables
  | factor f code => exact s.putFeeder_sameCeilings f ((s.feeder f).evaluate_effective code)
  | exchange n =>
    obtain ⟨x, tx, driver, hbegin⟩ := s.beginExchange_eq n
    rw [hbegin]
    exact State.sameCeilings_of_allot rfl
  | reserves => exact State.sameCeilings_of_allot s.testReservation_allot
  | endsWrite n i eraseFirst retry left v _ =>
    exact State.sameCeilings_of_allot (s.endWrite_storeOnly n i retry v).allot
  | endsMark n i left v _ => exact State.sameCeilings_of_allot (s.endMark_storeOnly n i v).allot
  | endsErase i left v _ => exact State.sameCeilings_of_allot (s.endErase_storeOnly i v).allot
  | endsReservation l left v _ =>
    exact State.sameCeilings_of_allot (s.endReservation_storeOnly l v).allot
  | endsSave c left v _ => exact State.sameCeilings_of_allot (s.endSave_storeOnly c v).allot
  | scans aged _ => exact State.sameCeilings_of_allot (s.endScan_allot aged)
  | time | pay | site | meas | misses | answers | stores | round | row | binding | park
  | halts | settles | releases | saves => exact State.sameCeilings_of_allot rfl

theorem Move.entry {s t : State} (h : Move s t) (p : Pedestal) :
    EntryMove s.allot.parameters (s.entry p) (t.entry p) := by
  obtain h | h := h.cases_tables
  · exact h.entry p
  · rw [State.tables_entry h]
    exact .same

/-! ### The law of order -/

theorem OrderLaw.of_entries {s t : State} (h : ∀ p, t.entry p = s.entry p) (hs : OrderLaw s) :
    OrderLaw t := fun p => by
  rw [h]
  exact hs p

theorem OrderLaw.move {s t : State} (hs : OrderLaw s) (h : Move s t) : OrderLaw t :=
  fun p => (h.entry p).inOrder (hs p)

theorem OrderLaw.effect {s t : State} (hs : OrderLaw s) (h : Effect s t) : OrderLaw t :=
  h.keeps (P := OrderLaw) (fun _ _ hs hm => hs.move hm) (fun u _ => u.recompute_orderLaw)
    (fun u _ => u.recompute_orderLaw) (fun u hu => hu.of_entries u.entry_finish)
    (fun _ => hs.of_entries fun _ => rfl) afterReset_orderLaw hs

/-- Settles O6: a recompute leaves every entry in order, and between recomputes only a ramp step changes a
grant, within its target. -/
theorem stepKeepsOrderLaw : Obligations.StepKeepsOrderLaw := by
  unfold Obligations.StepKeepsOrderLaw
  intro s t hs hstep
  exact step_keeps (P := OrderLaw) (fun _ _ h => h.of_entries fun _ => rfl)
    (fun s h => h.move (.table (.advance s 1))) (fun _ _ h heffect => h.effect heffect) hs hstep

/-! ### The law of ceilings -/

/-- The sides of the law of ceilings, from one state to the next. -/
theorem CeilingLaw.congr {s t : State} (hs : CeilingLaw s) (hceilings : t.sameCeilings s)
    (hcfg : ∀ p, (t.entry p).cfg = (s.entry p).cfg)
    (htarget : ∀ p, (t.entry p).target = (s.entry p).target)
    (hgrant : ∀ p, (t.entry p).grant ≤ (t.entry p).target) : CeilingLaw t := by
  obtain ⟨hfeeders, hsite, -⟩ := hs
  obtain ⟨heffective, hceiling⟩ := hceilings
  refine ⟨fun f => ?_, ?_, hgrant⟩
  · have hsum : t.feederTargets f = s.feederTargets f := by
      simp only [State.feederTargets, hcfg, htarget]
    rw [hsum, heffective]
    exact hfeeders f
  · have hsum : t.siteTargets = s.siteTargets := by simp only [State.siteTargets, htarget]
    rw [hsum, hceiling]
    exact hsite

theorem CeilingLaw.move {s t : State} (hs : CeilingLaw s) (h : Move s t) : CeilingLaw t :=
  hs.congr h.sameCeilings (fun p => (h.entry p).bounded.1) (fun p => (h.entry p).bounded.2.2.1)
    fun p => (h.entry p).bounded.2.2.2 (hs.2.2 p)

theorem CeilingLaw.of_allot {s t : State} (h : t.allot = s.allot) (hs : CeilingLaw s) :
    CeilingLaw t := by
  have hentry := State.entry_congr (congrArg Allotment.entries h)
  refine hs.congr (State.sameCeilings_of_allot h) (fun p => ?_) (fun p => ?_) fun p => ?_
  · rw [hentry]
  · rw [hentry]
  · rw [hentry]
    exact hs.2.2 p

theorem CeilingLaw.effect {s t : State} (hs : CeilingLaw s) (h : Effect s t) : CeilingLaw t :=
  h.keeps (P := CeilingLaw) (fun _ _ hs hm => hs.move hm) (fun u _ => u.recompute_ceilingLaw)
    (fun u _ => u.recompute_ceilingLaw) (fun u hu => hu.of_allot u.finish_allot)
    (fun _ => hs.of_allot rfl) afterReset_ceilingLaw hs

/-- R39: no grant is above its target, so the grants of a feeder and of the site stay where the targets
do. -/
theorem CeilingLaw.grants {s : State} (hs : CeilingLaw s) :
    (∀ f, s.feederGrants f ≤ (s.feeder f).effective) ∧ s.siteGrants ≤ s.allot.siteCeiling := by
  obtain ⟨hfeeders, hsite, hgrant⟩ := hs
  refine ⟨fun f => le_trans (List.sum_le_sum fun p _ => ?_) (hfeeders f),
    le_trans (List.sum_le_sum fun p _ => hgrant p) hsite⟩
  split
  · exact hgrant p
  · exact le_rfl

/-- Settles O9: a recompute shares within the ceilings, and between recomputes targets and ceilings
stand. -/
theorem stepKeepsCeilingLaw : Obligations.StepKeepsCeilingLaw := by
  unfold Obligations.StepKeepsCeilingLaw
  intro s t hs hstep
  have ht : CeilingLaw t := step_keeps (P := CeilingLaw) (fun _ _ h => h.of_allot rfl)
    (fun s h => h.move (.table (.advance s 1))) (fun _ _ h heffect => h.effect heffect) hs hstep
  exact ⟨ht, ht.grants⟩

end Sys2Proof.Machine
end

section
/-! SUPPORT. The requests that configure the site, a pedestal and the parameters (O34, O36, O37): the
codes of their arguments (Table 12.2, R167, R168) and their treatments. -/

namespace Sys2Proof.Machine
open Sys2Proof

/-! ### Codes and echoes -/

theorem flagOf_of_val {b : Byte} {on : Bool} (h : b.toNat = on.toNat) : flagOf b = some on := by
  unfold flagOf
  rw [h]
  cases on <;> rfl

theorem flagOf_of_ge {b : Byte} (h : 2 ≤ b.toNat) : flagOf b = none := by
  unfold flagOf
  split
  · omega
  · omega
  · rfl

theorem feederOf_of_val {b : Byte} {f : Feeder} (h : b.toNat = Feeder.code f) :
    feederOf b = some f := by
  unfold feederOf
  rw [h]
  cases f <;> rfl

theorem feederOf_of_ge {b : Byte} (h : 4 ≤ b.toNat) : feederOf b = none := by
  unfold feederOf
  split
  · omega
  · omega
  · omega
  · omega
  · rfl

theorem classOf_of_val {b : Byte} {c : Fin 4} (h : b.toNat = c.val) : classOf b = some c := by
  simp [classOf, h]

theorem classOf_of_ge {b : Byte} (h : 4 ≤ b.toNat) : classOf b = none := by
  simp [classOf, h]

theorem rampModeOf_of_val {b : Byte} {m : RampMode} (h : b.toNat = RampMode.code m) :
    rampModeOf b = some m := by
  unfold rampModeOf
  rw [h]
  cases m <;> rfl

theorem rampModeOf_of_ge {b : Byte} (h : 2 ≤ b.toNat) : rampModeOf b = none := by
  unfold rampModeOf
  split
  · omega
  · omega
  · rfl

/-- A field of one byte is its byte. -/
theorem bytesOf_one_of_val {b : Byte} {n : Nat} (h : b.toNat = n) : bytesOf 1 n = [b] := by
  rw [← h]
  simp [bytesOf]

theorem flagByte_of_val {b : Byte} {on : Bool} (h : b.toNat = on.toNat) : flagByte on = b := by
  refine BitVec.eq_of_toNat_eq ?_
  rw [h]
  cases on <;> rfl

/-! ### A request that is answered (R165) -/

/-- A served site request, answered after its effect on the blocks behind the port. -/
theorem State.siteRequest_replied {s t : State} {r : SiteRequest} {o : OutcomeCode}
    {body : List Byte} (h : s.siteServes = true) (ht : r.treat s = t.answer o body)
    (hsite : t.site = s.site) : s.siteRequest r = (t.siteReplied r.kind o body).finish := by
  rw [State.siteRequest_answered h ht, ← hsite]
  rfl

/-- Settles O34: the clamp of R166 is the value itself up to the limit, and the limit above it. -/
theorem siteCeilingAndClockAreSet : Obligations.SiteCeilingAndClockAreSet := by
  unfold Obligations.SiteCeilingAndClockAreSet
  intro s hserve
  refine ⟨fun c => ⟨fun hle => ?_, fun hgt => ?_⟩, fun c => ?_⟩
  · have htreat : s.treatSetSiteCeiling c = State.answer
        ({ s with allot := { s.allot with siteCeiling := c.toNat } } : State).recompute .done
        (bytesOf 2 c.toNat) := by
      simp [State.treatSetSiteCeiling, Nat.min_eq_left hle, doneIf]
    exact congrArg _ (State.siteRequest_replied (r := .setSiteCeiling c) hserve htreat rfl)
  · have htreat : s.treatSetSiteCeiling c = State.answer
        ({ s with allot := { s.allot with siteCeiling := 60000 } } : State).recompute .doneClamped
        (bytesOf 2 60000) := by
      simp [State.treatSetSiteCeiling, Nat.min_eq_right hgt.le, hgt.ne, doneIf]
    exact congrArg _ (State.siteRequest_replied (r := .setSiteCeiling c) hserve htreat rfl)
  · exact congrArg _ (State.siteRequest_replied (r := .setClock c) hserve rfl rfl)

/-! ### SET PEDESTAL (R167) -/

/-- R167: codes in range give a configuration, with the cap clamped. -/
theorem pedestalConfigOf_of_val {present feeder cls mode : Byte} {on : Bool} {f : Feeder}
    {c : Fin 4} {m : RampMode} (hpresent : present.toNat = on.toNat)
    (hfeeder : feeder.toNat = Feeder.code f) (hcls : cls.toNat = c.val)
    (hmode : mode.toNat = RampMode.code m) (cap : BitVec 16) :
    pedestalConfigOf present feeder cls cap mode =
      some { present := on, feeder := f, cls := c, cap := min cap.toNat 4000, rampMode := m } := by
  simp only [pedestalConfigOf, flagOf_of_val hpresent, feederOf_of_val hfeeder, classOf_of_val hcls,
    rampModeOf_of_val hmode]

/-- R167: a code out of range gives none. -/
theorem pedestalConfigOf_of_ge {present feeder cls mode : Byte}
    (h : 2 ≤ present.toNat ∨ 4 ≤ feeder.toNat ∨ 4 ≤ cls.toNat ∨ 2 ≤ mode.toNat) (cap : BitVec 16) :
    pedestalConfigOf present feeder cls cap mode = none := by
  unfold pedestalConfigOf
  split
  · next hpresent hfeeder hcls hmode =>
    obtain h | h | h | h := h
    · cases (flagOf_of_ge h).symm.trans hpresent
    · cases (feederOf_of_ge h).symm.trans hfeeder
    · cases (classOf_of_ge h).symm.trans hcls
    · cases (rampModeOf_of_ge h).symm.trans hmode
  · rfl

theorem State.treatSetPedestal_range {s : State} {b present feeder cls mode : Byte} {cap : BitVec 16}
    (h : pedestalOf b = none ∨ pedestalConfigOf present feeder cls cap mode = none) :
    s.treatSetPedestal b present feeder cls cap mode = s.answer .range [b] := by
  unfold State.treatSetPedestal
  split
  · next hb hconfig =>
    obtain h | h := h
    · cases h.symm.trans hb
    · cases h.symm.trans hconfig
  · rfl

theorem State.treatSetPedestal_taken {s : State} {b present feeder cls mode : Byte}
    {cap : BitVec 16} {p : Pedestal} {c : PedestalConfig} (hb : pedestalOf b = some p)
    (hconfig : pedestalConfigOf present feeder cls cap mode = some c) :
    s.treatSetPedestal b present feeder cls cap mode =
      if (s.session p).isSome then s.answer .busyPedestal [b]
      else (s.configurePedestal p c).recompute.answer (doneIf (decide (c.cap = cap.toNat)))
        (pedestalReply b c) := by
  unfold State.treatSetPedestal
  rw [hb, hconfig]

theorem State.configurePedestal_site (s : State) (p : Pedestal) (c : PedestalConfig) :
    (s.configurePedestal p c).site = s.site := by
  unfold State.configurePedestal
  dsimp only
  split <;> rfl

/-- Settles O36: the arguments are read before the slot is looked at; a FREE slot takes them. -/
theorem setPedestalStores : Obligations.SetPedestalStores := by
  unfold Obligations.SetPedestalStores
  intro s b present feeder cls mode cap hserve
  refine ⟨fun hrange => ?_, fun p on f c m hb hpresent hfeeder hcls hmode => ?_⟩
  · have hnone : pedestalOf b = none ∨ pedestalConfigOf present feeder cls cap mode = none :=
      hrange.imp pedestalOf_of_ge fun h => pedestalConfigOf_of_ge h cap
    exact congrArg _ (State.siteRequest_refused (r := .setPedestal b present feeder cls cap mode)
      hserve (State.treatSetPedestal_range hnone))
  · have htaken := State.treatSetPedestal_taken (s := s) (pedestalOf_of_val hb)
      (pedestalConfigOf_of_val hpresent hfeeder hcls hmode cap)
    refine ⟨fun hbusy => ?_, fun hfree => ?_⟩
    · rw [if_pos hbusy] at htaken
      exact congrArg _ (State.siteRequest_refused (r := .setPedestal b present feeder cls cap mode)
        hserve htaken)
    · rw [if_neg (by simp [hfree])] at htaken
      have hreplied := State.siteRequest_replied (r := .setPedestal b present feeder cls cap mode)
        hserve htaken (State.configurePedestal_site s p _)
      simp only [pedestalReply, flagByte_of_val hpresent, bytesOf_one_of_val hfeeder,
        bytesOf_one_of_val hcls, bytesOf_one_of_val hmode, doneIf, decide_eq_true_eq,
        min_eq_left_iff] at hreplied
      exact congrArg _ hreplied

/-! ### SET PARAMETERS (R168) -/

theorem State.treatSetParameters_range {s : State} {m st sl h : BitVec 16} {i tr q : Byte}
    (hcode : 2 ≤ tr.toNat ∨ 2 ≤ q.toNat) :
    s.treatSetParameters m st i sl h tr q = s.answer .range [] := by
  unfold State.treatSetParameters
  split
  · next htr hq =>
    obtain hcode | hcode := hcode
    · cases (flagOf_of_ge hcode).symm.trans htr
    · cases (flagOf_of_ge hcode).symm.trans hq
  · rfl

/-- R168: the clamp as the smaller of the value and the upper end, at least the lower. -/
theorem clamp_eq (lo hi v : Nat) : clamp lo hi v = max lo (min v hi) := by
  rw [clamp, Nat.min_comm]

/-- R168: the parameters as stored. -/
def storedParameters (m st sl h : BitVec 16) (i : Byte) (on : Bool) : Parameters :=
  { minGrant := max 10 (min m.toNat 500), step := max 10 (min st.toNat 1000),
    stepInterval := max 1 (min i.toNat 15), slack := max 10 (min sl.toNat 500),
    holdReserve := min h.toNat 1000, trackingOn := on }

theorem State.treatSetParameters_taken {s : State} {m st sl h : BitVec 16} {i tr q : Byte}
    {on quiesced : Bool} (htr : tr.toNat = on.toNat) (hq : q.toNat = quiesced.toNat) :
    s.treatSetParameters m st i sl h tr q =
      let new := storedParameters m st sl h i on
      (s.configureParameters new quiesced).recompute.answer
        (if new.minGrant = m.toNat ∧ new.step = st.toNat ∧ new.stepInterval = i.toNat
          ∧ new.slack = sl.toNat ∧ new.holdReserve = h.toNat then .done else .doneClamped)
        (parametersReply new quiesced) := by
  simp only [State.treatSetParameters, flagOf_of_val htr, flagOf_of_val hq, clamp_eq, Nat.zero_max,
    doneIf, Bool.and_eq_true, decide_eq_true_eq, storedParameters, and_assoc]
  congr

/-- Settles O37: the two codes are read first, then the five values are clamped and all are stored. -/
theorem setParametersStores : Obligations.SetParametersStores := by
  unfold Obligations.SetParametersStores
  intro s m st sl h i tr q hserve
  refine ⟨fun hcode => ?_, fun on quiesced htr hq => ?_⟩
  · exact congrArg _ (State.siteRequest_refused (r := .setParameters m st i sl h tr q) hserve
      (State.treatSetParameters_range hcode))
  · have hreplied := State.siteRequest_replied (r := .setParameters m st i sl h tr q) hserve
      (State.treatSetParameters_taken htr hq) rfl
    simp only [parametersReply, storedParameters, flagByte_of_val htr, flagByte_of_val hq] at hreplied
    exact congrArg _ hreplied

end Sys2Proof.Machine
end

section
/-! SUPPORT. Admission in the order of the list (R34, R35): with session numbers of their own the listed
pedestals stand in the list's order, and a pedestal is admitted where its base fits beside the bases
admitted before it. -/

namespace Sys2Proof.Machine
open Sys2Proof

/-! ### The order of the list (R34) -/

/-- R34: a pedestal stands before another: by class, then by session number. -/
def State.earlier (s : State) (o p : Pedestal) : Bool :=
  decide ((s.entry o).cfg.cls < (s.entry p).cfg.cls
    ∨ (s.entry o).cfg.cls = (s.entry p).cfg.cls ∧ s.sessionNumber o < s.sessionNumber p)

theorem State.earlier_iff {s : State} {o p : Pedestal} : s.earlier o p = true ↔
    (s.entry o).cfg.cls < (s.entry p).cfg.cls
      ∨ (s.entry o).cfg.cls = (s.entry p).cfg.cls ∧ s.sessionNumber o < s.sessionNumber p :=
  decide_eq_true_iff

theorem State.bidOf_before (s : State) (o p : Pedestal) :
    (s.bidOf o).before (s.bidOf p) = s.earlier o p := by
  rw [State.earlier, Bool.decide_or, Bool.decide_and]
  rfl

theorem State.not_earlier_of_earlier {s : State} {o p : Pedestal} (h : s.earlier o p = true) :
    s.earlier p o = false := by
  rw [← Bool.not_eq_true, State.earlier_iff]
  rw [State.earlier_iff] at h
  omega

theorem State.not_earlier_self (s : State) (p : Pedestal) : s.earlier p p = false := by
  rw [← Bool.not_eq_true, State.earlier_iff]
  omega

/-- R34: the sessions of listed pedestals have numbers of their own. -/
def State.distinctNumbers (s : State) : Prop :=
  ∀ o p, 0 < s.demandOf o → 0 < s.demandOf p → s.sessionNumber o = s.sessionNumber p → o = p

theorem State.earlier_or_earlier {s : State} (hs : s.distinctNumbers) {o p : Pedestal}
    (ho : 0 < s.demandOf o) (hp : 0 < s.demandOf p) (h : o ≠ p) :
    s.earlier o p = true ∨ s.earlier p o = true := by
  have hnumber : s.sessionNumber o ≠ s.sessionNumber p := fun e => h (hs o p ho hp e)
  rw [State.earlier_iff, State.earlier_iff]
  omega

theorem Bid.before_trans {x y z : Bid} (h : x.before y = true) (k : y.before z = true) :
    x.before z = true := by
  simp only [Bid.before, Bool.or_eq_true, Bool.and_eq_true, decide_eq_true_eq] at h k ⊢
  omega

theorem insertBid_pairwise {x : Bid} {l : List Bid} (hl : l.Pairwise fun y z => y.before z = true)
    (hx : ∀ y ∈ l, x.before y = true ∨ y.before x = true) :
    (insertBid x l).Pairwise fun y z => y.before z = true := by
  induction l with
  | nil => exact List.pairwise_singleton _ _
  | cons y rest ih =>
    rw [List.pairwise_cons] at hl
    obtain ⟨hy, hrest⟩ := hl
    rw [List.forall_mem_cons] at hx
    obtain ⟨hxy, hxrest⟩ := hx
    rw [insertBid]
    split
    · next hbefore =>
      refine List.pairwise_cons.mpr ⟨?_, List.pairwise_cons.mpr ⟨hy, hrest⟩⟩
      rw [List.forall_mem_cons]
      exact ⟨hbefore, fun z hz => Bid.before_trans hbefore (hy z hz)⟩
    · next hbefore =>
      refine List.pairwise_cons.mpr ⟨fun z hz => ?_, ih hrest hxrest⟩
      obtain rfl | hz := mem_insertBid.mp hz
      · exact hxy.resolve_left hbefore
      · exact hy z hz

theorem sortBids_pairwise {l : List Bid}
    (h : l.Pairwise fun x y => x.before y = true ∨ y.before x = true) :
    (l.foldr insertBid []).Pairwise fun y z => y.before z = true := by
  induction l with
  | nil => exact .nil
  | cons x rest ih =>
    rw [List.pairwise_cons] at h
    exact insertBid_pairwise (ih h.2) fun y hy => h.1 y (mem_insertAll.mp hy)

/-- R34: the list is in its order. -/
theorem State.bidList_pairwise {s : State} (hs : s.distinctNumbers) :
    (s.bidList.map Bid.pedestal).Pairwise fun o p => s.earlier o p = true := by
  have hbids : s.bidList.Pairwise fun x y => x.before y = true := by
    refine sortBids_pairwise (List.pairwise_filter.mpr (List.pairwise_map.mpr ?_))
    refine nodup_pedestals.imp fun {o p} hne ho hp => ?_
    rw [State.bidOf_before, State.bidOf_before]
    exact State.earlier_or_earlier hs (of_decide_eq_true ho) (of_decide_eq_true hp) hne
  refine List.pairwise_map.mpr (hbids.imp_of_mem fun {x y} hx hy h => ?_)
  obtain ⟨o, -, rfl⟩ := State.mem_bidList.mp hx
  obtain ⟨p, -, rfl⟩ := State.mem_bidList.mp hy
  exact (s.bidOf_before o p).symm.trans h

/-! ### The walk of the list (R35) -/

theorem admission_append (m : Nat) (r : Room) (l k : List Bid) :
    (admission m r (l ++ k)).2
      = (admission m r l).2 ++ (admission m (admission m r l).1 k).2 := by
  induction l generalizing r with
  | nil => rfl
  | cons b rest ih =>
    rw [List.cons_append]
    cases hfits : b.fits m r with
    | true => rw [admission_cons_of_fits hfits, admission_cons_of_fits hfits, ih, List.cons_append]
    | false => rw [admission_cons_of_not_fits hfits, admission_cons_of_not_fits hfits, ih]

/-- R35: a pedestal of the list is admitted where its base fits what the walk has left to it. -/
theorem mem_admission_iff_fits {m : Nat} {r : Room} {before after : List Bid} {b : Bid}
    (h : ((before ++ b :: after).map Bid.pedestal).Nodup) :
    b.pedestal ∈ (admission m r (before ++ b :: after)).2.map Bid.pedestal
      ↔ b.fits m (admission m r before).1 = true := by
  rw [List.map_append, List.map_cons, List.nodup_middle, List.nodup_cons, List.mem_append,
    not_or] at h
  obtain ⟨⟨hbefore, hafter⟩, -⟩ := h
  have hout : b.pedestal ∉ (admission m r before).2.map Bid.pedestal := fun hb =>
    hbefore ((admission_pedestals m r before).subset hb)
  rw [admission_append, List.map_append, List.mem_append, or_iff_right hout]
  cases hfits : b.fits m (admission m r before).1 with
  | true =>
    rw [admission_cons_of_fits hfits]
    exact iff_of_true List.mem_cons_self rfl
  | false =>
    rw [admission_cons_of_not_fits hfits]
    exact iff_of_false (fun hb => hafter ((admission_pedestals m _ after).subset hb)) nofun

/-! ### What admission has taken (R35) -/

/-- R35: the base of a pedestal. -/
def State.base (s : State) (p : Pedestal) : Nat :=
  min (s.recompute.entry p).demand s.allot.parameters.minGrant

/-- R35: the bases of the admitted pedestals among some. -/
def State.taken (s : State) (among : Pedestal → Bool) : Nat :=
  (pedestals.map fun o =>
    if (s.recompute.entry o).admitted && among o then s.base o else 0).sum

theorem State.base_eq (s : State) (p : Pedestal) :
    s.base p = (s.bidOf p).base s.allot.parameters.minGrant := by
  rw [State.base, State.recompute_entry_demand]
  rfl

theorem State.share_of_mem_walked {s : State} {b : Bid} (h : b ∈ s.walked.2) :
    b.g = s.base b.pedestal := by
  obtain ⟨p, -, rfl⟩ := State.exists_of_mem_walked h
  exact (s.base_eq p).symm

theorem State.taken_eq (s : State) (among : Pedestal → Bool) :
    s.taken among = (s.walked.2.map fun b => if among b.pedestal then b.g else 0).sum := by
  rw [State.taken, sum_pedestals_of_support s.walked_nodup, List.map_map]
  · refine congrArg List.sum (List.map_congr_left fun b hb => ?_)
    have hadmitted : (s.recompute.entry b.pedestal).admitted = true :=
      State.recompute_admitted_iff.mpr (List.mem_map_of_mem hb)
    rw [Function.comp_apply, hadmitted, Bool.true_and, State.share_of_mem_walked hb]
  · intro p hp
    have hadmitted : (s.recompute.entry p).admitted = false := by
      rwa [← Bool.not_eq_true, State.recompute_admitted_iff]
    rw [hadmitted, Bool.false_and]
    exact if_neg nofun

theorem State.taken_all (s : State) : s.taken (fun _ => true) = totalShare s.walked.2 :=
  s.taken_eq _

theorem State.taken_home (s : State) (f : Feeder) :
    s.taken (fun o => decide ((s.entry o).cfg.feeder = f)) = feederShare f s.walked.2 := by
  rw [State.taken_eq, feederShare]
  refine congrArg List.sum (List.map_congr_left fun b hb => ?_)
  simp only [decide_eq_true_eq, (State.walked_sound b hb).feeder]

theorem State.walked_site (s : State) :
    s.walked.1.site = s.allot.siteCeiling - s.taken fun _ => true := by
  have hsite : s.walked.1.site + totalShare s.walked.2 = s.allot.siteCeiling :=
    (admission_accounted _ s.ceilings s.bidList).site
  rw [State.taken_all]
  omega

theorem State.walked_feeder (s : State) (f : Feeder) : s.walked.1.feeder f
    = (s.feeder f).ceilingNow - s.taken fun o => decide ((s.entry o).cfg.feeder = f) := by
  have hfeeder : s.walked.1.feeder f + feederShare f s.walked.2 = s.ceilings.feeder f :=
    (admission_accounted _ s.ceilings s.bidList).feeder f
  rw [State.feeder_ceilings] at hfeeder
  rw [State.taken_home]
  omega

section
variable {s : State} {p : Pedestal} {before after : List Bid}

/-- R35: what is admitted from a pedestal's place in the list on is not earlier than it. -/
theorem State.not_earlier_of_late (hs : s.distinctNumbers)
    (hlist : s.bidList = before ++ s.bidOf p :: after) {r : Room} {b : Bid}
    (hb : b ∈ (admission s.allot.parameters.minGrant r (s.bidOf p :: after)).2) :
    s.earlier b.pedestal p = false := by
  have horder := s.bidList_pairwise hs
  rw [hlist, List.map_append, List.map_cons, List.pairwise_append, List.pairwise_cons] at horder
  obtain ⟨-, ⟨hafter, -⟩, -⟩ := horder
  have hlisted := (admission_pedestals _ _ _).subset (List.mem_map_of_mem hb)
  obtain hself | hb := List.mem_cons.mp hlisted
  · rw [hself]
    exact s.not_earlier_self p
  · exact State.not_earlier_of_earlier (hafter _ hb)

theorem State.earlier_of_walk (hs : s.distinctNumbers)
    (hlist : s.bidList = before ++ s.bidOf p :: after) {b : Bid} (hb : b ∈ (s.walk before).2) :
    s.earlier b.pedestal p = true := by
  have horder := s.bidList_pairwise hs
  rw [hlist, List.map_append, List.map_cons, List.pairwise_append] at horder
  obtain ⟨-, -, hbefore⟩ := horder
  exact hbefore _ ((admission_pedestals _ _ _).subset (List.mem_map_of_mem hb)) p
    List.mem_cons_self

/-- R35: at a pedestal of the list, the walk has taken the bases admitted before it. -/
theorem State.taken_earlier (hs : s.distinctNumbers)
    (hlist : s.bidList = before ++ s.bidOf p :: after) (keep : Pedestal → Bool) :
    s.taken (fun o => s.earlier o p && keep o)
      = ((s.walk before).2.map fun b => if keep b.pedestal then b.g else 0).sum := by
  have hwalked : s.walked.2 = (s.walk before).2
      ++ (admission s.allot.parameters.minGrant (s.walk before).1 (s.bidOf p :: after)).2 := by
    rw [State.walked, hlist]
    exact admission_append _ _ _ _
  have hlate : ((admission s.allot.parameters.minGrant (s.walk before).1
      (s.bidOf p :: after)).2.map fun b =>
        if s.earlier b.pedestal p && keep b.pedestal then b.g else 0).sum = 0 := by
    refine List.sum_eq_zero fun n hn => ?_
    obtain ⟨b, hb, rfl⟩ := List.mem_map.mp hn
    rw [State.not_earlier_of_late hs hlist hb, Bool.false_and]
    exact if_neg nofun
  rw [State.taken_eq, hwalked, List.map_append, List.sum_append, hlate, Nat.add_zero]
  refine congrArg List.sum (List.map_congr_left fun b hb => ?_)
  rw [State.earlier_of_walk hs hlist hb, Bool.true_and]

/-- R35: a pedestal of the list fits where its base fits beside the bases admitted before it. -/
theorem State.fits_iff_taken (hs : s.distinctNumbers)
    (hlist : s.bidList = before ++ s.bidOf p :: after) :
    (s.bidOf p).fits s.allot.parameters.minGrant (s.walk before).1 = true ↔
      s.taken (fun o => s.earlier o p) + s.base p ≤ s.allot.siteCeiling
      ∧ s.taken (fun o => s.earlier o p
          && decide ((s.entry o).cfg.feeder = (s.entry p).cfg.feeder)) + s.base p
        ≤ (s.feeder (s.entry p).cfg.feeder).ceilingNow := by
  have haccounted : Accounted s.ceilings [] (s.walk before).1 (s.walk before).2 :=
    admission_accounted _ _ _
  have hsite : (s.walk before).1.site + totalShare (s.walk before).2 = s.allot.siteCeiling :=
    haccounted.site
  have hfeeder : (s.walk before).1.feeder (s.entry p).cfg.feeder
      + feederShare (s.entry p).cfg.feeder (s.walk before).2
        = (s.feeder (s.entry p).cfg.feeder).ceilingNow := by
    rw [← State.feeder_ceilings]
    exact haccounted.feeder (s.entry p).cfg.feeder
  have htaken : s.taken (fun o => s.earlier o p) = totalShare (s.walk before).2 := by
    simpa only [Bool.and_true, if_true, totalShare]
      using State.taken_earlier hs hlist fun _ => true
  have hhome : s.taken (fun o => s.earlier o p
      && decide ((s.entry o).cfg.feeder = (s.entry p).cfg.feeder))
        = feederShare (s.entry p).cfg.feeder (s.walk before).2 := by
    rw [State.taken_earlier hs hlist, feederShare]
    refine congrArg List.sum (List.map_congr_left fun b hb => ?_)
    obtain ⟨x, hx, rfl⟩ := exists_of_mem_admission hb
    obtain ⟨o, -, rfl⟩ := State.mem_bidList.mp (hlist ▸ List.mem_append_left _ hx)
    simp only [decide_eq_true_eq]
    rfl
  have hfits := Bid.fits_iff (m := s.allot.parameters.minGrant) (r := (s.walk before).1)
    (b := s.bidOf p)
  rw [← s.base_eq, show (s.bidOf p).feeder = (s.entry p).cfg.feeder from rfl] at hfits
  rw [hfits, htaken, hhome]
  omega

end

/-- R35: a pedestal with a demand is admitted where its base fits, in the site and in its feeder, with the
bases admitted before it. -/
theorem State.admitted_iff {s : State} (hs : s.distinctNumbers) {p : Pedestal}
    (hp : 0 < s.demandOf p) : (s.recompute.entry p).admitted = true ↔
      s.taken (fun o => s.earlier o p) + s.base p ≤ s.allot.siteCeiling
      ∧ s.taken (fun o => s.earlier o p
          && decide ((s.entry o).cfg.feeder = (s.entry p).cfg.feeder)) + s.base p
        ≤ (s.feeder (s.entry p).cfg.feeder).ceilingNow := by
  obtain ⟨before, after, hlist⟩ := List.append_of_mem (State.mem_bidList.mpr ⟨p, hp, rfl⟩)
  have hnodup := s.bidList_nodup
  rw [hlist] at hnodup
  rw [← State.fits_iff_taken hs hlist, State.recompute_admitted_iff, State.walked, hlist]
  exact mem_admission_iff_fits hnodup

end Sys2Proof.Machine
end

section
/-! SUPPORT. The rounds of headroom as R37 words them: the rooms and bids of stage 5 follow the headroom
of `ClassServed`, round by round and class by class (R36). -/

namespace Sys2Proof.Machine
open Sys2Proof

/-! ### Headroom and bids -/

/-- The headroom that stands for the remainders and the shares of some bids. -/
structure Headroom.standsFor (x : Headroom) (r : Room) (l : List Bid) : Prop where
  site : x.site = r.site
  feeder : ∀ f, x.feeder f = r.feeder f
  share : ∀ b ∈ l, x.share b.pedestal = b.g

/-- From one headroom to the next only pedestals of a list gain a share. -/
def Headroom.sameOff (l : List Pedestal) (x y : Headroom) : Prop := ∀ q, q ∉ l → y.share q = x.share q

/-- A bid's demand and feeder are those of its pedestal. -/
def Bid.reads (demand : Pedestal → Nat) (home : Pedestal → Feeder) (b : Bid) : Prop :=
  b.demand = demand b.pedestal ∧ b.feeder = home b.pedestal

theorem Bid.reads_kept (demand : Pedestal → Nat) (home : Pedestal → Feeder) :
    Bid.Kept (Bid.reads demand home) := fun _ _ _ h => h

@[simp] theorem Headroom.give_site (x : Headroom) (p : Pedestal) (f : Feeder) (inc : Nat) :
    (x.give p f inc).site = x.site - inc := rfl

theorem Headroom.give_feeder (x : Headroom) (p : Pedestal) (f k : Feeder) (inc : Nat) :
    (x.give p f inc).feeder k = if k = f then x.feeder k - inc else x.feeder k := rfl

@[simp] theorem Headroom.give_share_self (x : Headroom) (p : Pedestal) (f : Feeder) (inc : Nat) :
    (x.give p f inc).share p = x.share p + inc :=
  if_pos rfl

theorem Headroom.give_share_of_ne (x : Headroom) {p q : Pedestal} (f : Feeder) (inc : Nat)
    (h : q ≠ p) : (x.give p f inc).share q = x.share q :=
  if_neg h

section
variable {demand : Pedestal → Nat} {home : Pedestal → Feeder}

/-- R37, step 1: U is the same set in both. -/
theorem Headroom.takers_eq {x : Headroom} {r : Room} {l : List Bid} (h : x.standsFor r l)
    (hl : ∀ b ∈ l, b.reads demand home) :
    x.takers demand home (l.map Bid.pedestal) = (takersOf r l).map Bid.pedestal := by
  rw [Headroom.takers, List.filter_map, takersOf]
  refine congrArg _ (List.filter_congr fun b hb => ?_)
  obtain ⟨hdemand, hfeeder⟩ := hl b hb
  simp only [Function.comp_apply, Bid.inU, h.share b hb, h.feeder, hdemand, hfeeder]

/-- What a bid takes in its turn is given to its pedestal. -/
theorem Headroom.give_standsFor {x : Headroom} {r : Room} {b : Bid} {rest : List Bid}
    (h : x.standsFor r (b :: rest)) (hb : b.pedestal ∉ rest.map Bid.pedestal) (inc : Nat) :
    (x.give b.pedestal b.feeder inc).standsFor (r.take b.feeder inc) rest := by
  refine ⟨?_, fun f => ?_, fun c hc => ?_⟩
  · rw [Headroom.give_site, h.site, Room.take_site]
  · rw [Headroom.give_feeder, Room.feeder_take, h.feeder]
  · have hne : c.pedestal ≠ b.pedestal := fun e => hb (e ▸ List.mem_map_of_mem hc)
    rw [Headroom.give_share_of_ne x _ _ hne]
    exact h.share c (List.mem_cons_of_mem _ hc)

/-- A bid whose turn gave it nothing. -/
theorem Headroom.skip_standsFor {x : Headroom} {r : Room} {b : Bid} {rest : List Bid}
    (h : x.standsFor r (b :: rest)) : x.standsFor (r.take b.feeder 0) rest := by
  refine ⟨h.site, fun f => ?_, fun c hc => h.share c (List.mem_cons_of_mem _ hc)⟩
  rw [Room.feeder_take, Nat.sub_zero, ite_self, h.feeder]

theorem Headroom.standsFor.cons {y : Headroom} {r : Room} {b : Bid} {rest : List Bid}
    (h : y.standsFor r rest) (hb : y.share b.pedestal = b.g) : y.standsFor r (b :: rest) :=
  ⟨h.site, h.feeder, List.forall_mem_cons.mpr ⟨hb, h.share⟩⟩

/-- R37, step 4: a round over the bids is the pedestals of U taking their increments in turn. -/
theorem shareRound_takenInTurn (start : Room) (share : Nat) {r : Room} {l : List Bid} {x : Headroom}
    (h : x.standsFor r l) (hl : ∀ b ∈ l, b.reads demand home) (hnodup : (l.map Bid.pedestal).Nodup) :
    ∃ y, TakenInTurn demand home share ((takersOf start l).map Bid.pedestal) x y
      ∧ y.standsFor (shareRound start share r l).1 (shareRound start share r l).2
      ∧ x.sameOff (l.map Bid.pedestal) y := by
  induction l generalizing r x with
  | nil => exact ⟨x, .nobody x, h, fun _ _ => rfl⟩
  | cons b rest ih =>
    rw [List.map_cons, List.nodup_cons] at hnodup
    obtain ⟨hb, hnodup⟩ := hnodup
    rw [List.forall_mem_cons] at hl
    obtain ⟨⟨hdemand, hfeeder⟩, hl⟩ := hl
    have hshare : x.share b.pedestal = b.g := h.share b List.mem_cons_self
    rw [shareRound_cons]
    cases hu : b.inU start with
    | true =>
      obtain ⟨y, htaken, hstands, hsame⟩ := ih
        (Headroom.give_standsFor h hb (b.increment start share r)) hl hnodup
      refine ⟨y, ?_, hstands.cons ?_, fun q hq => ?_⟩
      · rw [takersOf, List.filter_cons_of_pos hu]
        refine .next _ _ x y ?_
        rwa [h.site, h.feeder, hshare, ← hfeeder, ← hdemand, ← Bid.increment_of_inU hu]
      · exact (hsame _ hb).trans
          ((Headroom.give_share_self ..).trans (congrArg (· + _) hshare))
      · rw [List.map_cons, List.mem_cons, not_or] at hq
        rw [hsame q hq.2, Headroom.give_share_of_ne x _ _ hq.1]
    | false =>
      rw [Bid.increment_of_not_inU hu]
      obtain ⟨y, htaken, hstands, hsame⟩ := ih (Headroom.skip_standsFor h) hl hnodup
      refine ⟨y, ?_, hstands.cons ?_, fun q hq => ?_⟩
      · rwa [takersOf, List.filter_cons_of_neg (by simp [hu])]
      · exact (hsame _ hb).trans hshare
      · rw [List.map_cons, List.mem_cons, not_or] at hq
        exact hsame q hq.2

/-- R37: with as many rounds as the site remainder has units, the rounds of a class end as R37 says. -/
theorem shareClass_served {fuel : Nat} {r : Room} {l : List Bid} {x : Headroom}
    (hfuel : r.site ≤ fuel) (h : x.standsFor r l) (hl : ∀ b ∈ l, b.reads demand home)
    (hnodup : (l.map Bid.pedestal).Nodup) :
    ∃ y, ClassServed demand home (l.map Bid.pedestal) x y
      ∧ y.standsFor (shareClass fuel r l).1 (shareClass fuel r l).2
      ∧ x.sameOff (l.map Bid.pedestal) y := by
  induction fuel generalizing r l x with
  | zero => exact ⟨x, .ends x (.inr (h.site.trans (Nat.le_zero.mp hfuel))), h, fun _ _ => rfl⟩
  | succ fuel ih =>
    have htakers := Headroom.takers_eq h hl
    by_cases hends : takersOf r l = [] ∨ r.site = 0
    · rw [shareClass_ends hends]
      refine ⟨x, .ends x (hends.imp (fun hu => ?_) h.site.trans), h, fun _ _ => rfl⟩
      rw [htakers, hu, List.map_nil]
    · obtain ⟨hu, hsite⟩ := not_or.mp hends
      rw [shareClass_round hu hsite]
      obtain ⟨y, htaken, hstands, hsame⟩ := shareRound_takenInTurn r
        (max 1 (r.site / (takersOf r l).length)) h hl hnodup
      have hless := shareRound_site_lt (Nat.le_max_left 1 (r.site / (takersOf r l).length)) hsite
        (fun _ => rfl) hu
      have hpedestals := shareRound_pedestals r (max 1 (r.site / (takersOf r l).length)) r l
      obtain ⟨z, hserved, hstands', hsame'⟩ := ih (by omega) hstands
        (shareRound_forall (Bid.reads_kept demand home) hl) (by rwa [hpedestals])
      rw [hpedestals] at hserved hsame'
      refine ⟨z, .round x y z ?_ ?_ ?_ hserved, hstands', fun q hq => ?_⟩
      · rwa [htakers, Ne, List.map_eq_nil_iff]
      · rwa [h.site]
      · rwa [htakers, h.site, List.length_map]
      · rw [hsame' q hq, hsame q hq]

/-- R36: the headroom passes from class to class; the shares that a class ends with stand to the end. -/
theorem shareClasses_served {classes : List (Fin 4)} {r : Room} {l : List Bid} {x : Headroom}
    (h : x.standsFor r (classes.flatMap fun c => classOfBids c l))
    (hl : ∀ b ∈ l, b.reads demand home)
    (hnodup : ((classes.flatMap fun c => classOfBids c l).map Bid.pedestal).Nodup) :
    ∃ y : Nat → Headroom, y 0 = x
      ∧ (∀ i (hi : i < classes.length),
        ClassServed demand home ((classOfBids classes[i] l).map Bid.pedestal) (y i) (y (i + 1)))
      ∧ (∀ b ∈ shareClasses classes r l, (y classes.length).share b.pedestal = b.g)
      ∧ x.sameOff ((classes.flatMap fun c => classOfBids c l).map Bid.pedestal)
        (y classes.length) := by
  induction classes generalizing r x with
  | nil => exact ⟨fun _ => x, rfl, nofun, nofun, fun _ _ => rfl⟩
  | cons c rest ih =>
    rw [List.flatMap_cons] at h
    rw [List.flatMap_cons, List.map_append, List.nodup_append'] at hnodup
    obtain ⟨hnow, hlater, hdisjoint⟩ := hnodup
    obtain ⟨z, hserved, hstands, hsame⟩ := shareClass_served (le_refl r.site)
      ⟨h.site, h.feeder, fun b hb => h.share b (List.mem_append_left _ hb)⟩
      (fun b hb => hl b (List.mem_of_mem_filter hb)) hnow
    have hrest : z.standsFor (shareClass r.site r (classOfBids c l)).1
        (rest.flatMap fun c => classOfBids c l) :=
      ⟨hstands.site, hstands.feeder, fun b hb =>
        (hsame _ fun hb' => hdisjoint hb' (List.mem_map_of_mem hb)).trans
          (h.share b (List.mem_append_right _ hb))⟩
    obtain ⟨y, hfirst, hclasses, hshares, hsame'⟩ := ih hrest hlater
    refine ⟨fun i => i.casesOn x y, rfl, fun i hi => ?_, fun b hb => ?_, fun q hq => ?_⟩
    · cases i with
      | zero => rwa [← hfirst] at hserved
      | succ i => exact hclasses i (Nat.lt_of_succ_lt_succ hi)
    · rw [shareClasses_cons, List.mem_append] at hb
      obtain hb | hb := hb
      · have hmem : b.pedestal ∈ (classOfBids c l).map Bid.pedestal := by
          rw [← shareClass_pedestals r.site r]
          exact List.mem_map_of_mem hb
        exact (hsame' _ fun hb' => hdisjoint hmem hb').trans (hstands.share b hb)
      · exact hshares b hb
    · rw [List.flatMap_cons, List.map_append, List.mem_append, not_or] at hq
      exact (hsame' q hq.2).trans (hsame q hq.1)

end

/-! ### Stage 5 of a recompute -/

/-- R36: the headroom that admission leaves, each pedestal's share at its base. -/
def State.headroom (s : State) : Headroom :=
  { site := s.walked.1.site, feeder := s.walked.1.feeder, share := s.base }

/-- R36, R37: the classes share the headroom one after the other, and the targets are the last shares. -/
theorem State.classes_served (s : State) : ∃ x : Nat → Headroom, x 0 = s.headroom
    ∧ (∀ c : Fin 4, ClassServed s.demandOf (fun p => (s.entry p).cfg.feeder)
      ((s.walked.2.map Bid.pedestal).filter fun p => decide ((s.entry p).cfg.cls = c))
      (x c.val) (x (c.val + 1)))
    ∧ ∀ p, (s.recompute.entry p).admitted = true → (s.recompute.entry p).target = (x 4).share p := by
  have hperm := classes_perm s.walked.2
  obtain ⟨x, hfirst, hclasses, hshares, -⟩ := shareClasses_served (classes := [0, 1, 2, 3])
    (demand := s.demandOf) (home := fun p => (s.entry p).cfg.feeder)
    (x := s.headroom) (r := s.walked.1) (l := s.walked.2)
    ⟨rfl, fun _ => rfl, fun b hb => (State.share_of_mem_walked (hperm.mem_iff.mp hb)).symm⟩
    (fun b hb => ⟨(State.walked_sound b hb).demand, (State.walked_sound b hb).feeder⟩)
    ((hperm.map _).nodup_iff.mpr s.walked_nodup)
  have hmembers (c : Fin 4) : (classOfBids c s.walked.2).map Bid.pedestal
      = (s.walked.2.map Bid.pedestal).filter fun p => decide ((s.entry p).cfg.cls = c) := by
    rw [List.filter_map]
    refine congrArg _ (List.filter_congr fun b hb => ?_)
    rw [Function.comp_apply, (State.walked_sound b hb).cls]
  refine ⟨x, hfirst, fun c => ?_, fun p hp => ?_⟩
  · have hc : [(0 : Fin 4), 1, 2, 3][c.val] = c := by
      revert c
      decide
    rw [← hmembers c]
    have hserved := hclasses c.val c.isLt
    rwa [hc] at hserved
  · rw [State.recompute_entry_admitted, shareOf_isSome_iff] at hp
    obtain ⟨b, hb, rfl⟩ := List.mem_map.mp hp
    rw [State.recompute_entry_target, shareOf_of_mem s.allotted_nodup hb, Option.getD_some]
    exact (hshares b hb).symm

end Sys2Proof.Machine
end

section
/-! SUPPORT. The theorem of the recompute (O53): its stages, entry by entry. -/

namespace Sys2Proof.Machine
open Sys2Proof

/-! ### Stage 1 (R31, R32) -/

theorem State.demandOf_absent {s : State} {p : Pedestal}
    (h : (s.entry p).cfg.present = false ∨ s.countsForPower p = false
      ∨ (s.loopEntry p).link = .lost) : s.demandOf p = 0 := by
  unfold State.demandOf
  dsimp only
  rw [if_neg]
  obtain h | h | h := h <;> simp [h]

/-- R31: the request within the cap, and within the tracking cap where tracking is on. -/
def State.askedOf (s : State) (p : Pedestal) : Nat :=
  min (min (s.loopEntry p).request (s.entry p).cfg.cap)
    ((s.entry p).tracking.getD (min (s.loopEntry p).request (s.entry p).cfg.cap))

theorem State.demandOf_present {s : State} {p : Pedestal} (hpresent : (s.entry p).cfg.present = true)
    (hcounts : s.countsForPower p = true) (hlink : (s.loopEntry p).link ≠ .lost) :
    s.demandOf p = if (s.loopEntry p).link = .doubtful then min (s.askedOf p) (s.entry p).grant
      else s.askedOf p := by
  unfold State.demandOf State.askedOf
  dsimp only
  rw [if_pos (by simp [hpresent, hcounts, hlink])]
  cases (s.entry p).tracking with
  | none => rw [Option.getD_none, Nat.min_self]
  | some c => rfl

/-! ### Stage 6 (R38, R48 to R50) -/

section
variable {s : State} {p : Pedestal}

theorem State.recompute_of_target_le (h : (s.recompute.entry p).target ≤ (s.entry p).grant) :
    (s.recompute.entry p).grant = (s.recompute.entry p).target
      ∧ (s.recompute.entry p).rampTimer = none := by
  rw [State.recompute_entry_target] at h ⊢
  rw [State.entry_recompute_follow, AllotEntry.follow_of_le _ (e := s.targeted p) h]
  exact ⟨rfl, rfl⟩

theorem State.recompute_hard (h : (s.entry p).grant < (s.recompute.entry p).target)
    (hmode : (s.entry p).cfg.rampMode = .hard) :
    (s.recompute.entry p).grant = (s.recompute.entry p).target
      ∧ (s.recompute.entry p).rampTimer = none := by
  rw [State.recompute_entry_target] at h ⊢
  rw [State.entry_recompute_follow, AllotEntry.follow_hard _ (e := s.targeted p) h hmode]
  exact ⟨rfl, rfl⟩

theorem State.recompute_soft (h : (s.entry p).grant < (s.recompute.entry p).target)
    (hmode : (s.entry p).cfg.rampMode = .soft) :
    (s.recompute.entry p).grant
        = max (s.entry p).grant (min (s.recompute.entry p).target s.allot.parameters.minGrant)
      ∧ (s.recompute.entry p).rampTimer
        = if (s.recompute.entry p).grant < (s.recompute.entry p).target
          then some ((s.entry p).rampTimer.getD (s.allot.parameters.stepInterval * 200)) else none := by
  rw [State.recompute_entry_target] at h ⊢
  rw [State.entry_recompute_follow, AllotEntry.follow_soft _ (e := s.targeted p) h hmode,
    AllotEntry.jump_eq, AllotEntry.armed_eq]
  exact ⟨rfl, rfl⟩

end

/-! ### The theorem -/

/-- Settles O53, stage by stage: each entry by its own rules, the list by its order, and the targets by
the rounds that share the headroom. -/
theorem recomputeFollowsItsStages : Obligations.RecomputeFollowsItsStages := by
  unfold Obligations.RecomputeFollowsItsStages
  intro s
  refine ⟨rfl, s.recompute_feeder, s.recompute_feederTargets_le, s.recompute_siteTargets_le,
    fun p => ?_, fun hdistinct => ?_⟩
  · refine ⟨⟨s.recompute_entry_cfg p, s.recompute_entry_tracking p, s.recompute_entry_runCount p⟩,
      fun h => ?_, fun hpresent hcounts => ⟨fun hgood => ?_, fun hdoubtful => ?_⟩,
      State.recompute_target_of_not_admitted, fun h => ?_, s.recompute_entry_peak p,
      State.recompute_of_target_le, State.recompute_hard, fun hbelow hsoft => ?_⟩
    · rw [State.recompute_entry_demand, State.demandOf_absent h]
    · rw [State.recompute_entry_demand, State.demandOf_present hpresent hcounts (by simp [hgood]),
        if_neg (by simp [hgood])]
      rfl
    · rw [State.recompute_entry_demand, State.demandOf_present hpresent hcounts (by simp [hdoubtful]),
        if_pos hdoubtful]
      rfl
    · rw [State.recompute_entry_demand]
      exact State.recompute_target_of_admitted h
    · obtain ⟨hgrant, htimer⟩ := State.recompute_soft hbelow hsoft
      refine ⟨hgrant, fun heq => ?_, fun hless => ?_⟩
      · rw [htimer, if_neg heq.not_lt]
      · rw [htimer, if_pos hless]
  · simp only [State.recompute_entry_demand] at hdistinct
    have hnumbers : s.distinctNumbers := hdistinct
    obtain ⟨x, hfirst, hclasses, htargets⟩ := s.classes_served
    intro demand home base admitted earlier taken
    have hdemand : demand = s.demandOf := funext s.recompute_entry_demand
    refine ⟨fun p hp => ?_, s.walked.2.map Bid.pedestal, x, ?_, fun p => ?_, ?_, fun f => ?_, ?_, ?_,
      htargets⟩
    · rw [State.recompute_feeder]
      exact State.admitted_iff hnumbers (hdemand ▸ hp)
    · exact (s.bidList_pairwise hnumbers).sublist (admission_pedestals _ _ _)
    · exact State.recompute_admitted_iff.symm
    · rw [hfirst]
      exact s.walked_site
    · rw [hfirst, State.recompute_feeder]
      exact s.walked_feeder f
    · rw [hfirst]
      rfl
    · rw [hdemand]
      exact hclasses

end Sys2Proof.Machine
end

section
/-! SUPPORT. The step law of the grant (O7) and the ramp timer's expiry (O45): every write of the grant
keeps within the target, raises the peak with it and leaves a timer only below the target. -/

namespace Sys2Proof.Machine
open Sys2Proof

/-! ### Writes of the grant -/

/-- R52, R55, R56: a grant written within the target and not below the base, with a timer only where it is
still below the target. -/
theorem AllotEntry.grantSound_written {m g : Nat} {timer : Option Nat} {e : AllotEntry}
    (hbase : e.admitted = true → min e.demand m ≤ g) (hle : g ≤ e.target)
    (htimer : timer.isSome = true → g < e.target) :
    AllotEntry.grantSound m { e.writeGrant g with rampTimer := timer } :=
  ⟨hbase, hle, Nat.le_max_right _ _, htimer⟩

/-- R48 to R50: the grant rules establish the laws of the grant where the target covers the base. -/
theorem AllotEntry.grantSound_follow (q : Parameters) {e : AllotEntry}
    (hbase : e.admitted = true → min e.demand q.minGrant ≤ e.target) :
    (AllotEntry.follow q e).grantSound q.minGrant := by
  by_cases hle : e.target ≤ e.grant
  · rw [AllotEntry.follow_of_le q hle]
    exact AllotEntry.grantSound_written hbase le_rfl nofun
  have hbelow : e.grant < e.target := Nat.lt_of_not_le hle
  cases hmode : e.cfg.rampMode with
  | hard =>
    rw [AllotEntry.follow_hard q hbelow hmode]
    exact AllotEntry.grantSound_written hbase le_rfl nofun
  | soft =>
    rw [AllotEntry.follow_soft q hbelow hmode, AllotEntry.armed_eq, AllotEntry.jump_eq]
    refine AllotEntry.grantSound_written (fun hadmitted => ?_) ?_ Option.isSome_ite.mp
    · have hcovered := hbase hadmitted
      omega
    · omega

/-- R52: a ramp step raises the grant, within the target. -/
theorem AllotEntry.grantSound_rampStep {m : Nat} (q : Parameters) {e : AllotEntry}
    (h : e.grantSound m) : (AllotEntry.rampStep q e).grantSound m := by
  obtain ⟨hbase, hle, -, -⟩ := h
  refine AllotEntry.grantSound_written (fun hadmitted => ?_) (Nat.min_le_left _ _) Option.isSome_ite.mp
  calc min e.demand m
    _ ≤ e.grant := hbase hadmitted
    _ ≤ min e.target (e.grant + q.step) := Nat.le_min.mpr ⟨hle, Nat.le_add_right _ _⟩

/-! ### Draw tracking leaves the grant alone -/

theorem AllotEntry.endTracking_eq_tracked (e : AllotEntry) :
    ∃ cap run, e.endTracking = { e with tracking := cap, runCount := run } := by
  unfold AllotEntry.endTracking
  split <;> exact ⟨_, _, rfl⟩

theorem AllotEntry.offerDraw_eq_tracked (q : Parameters) (delivering : Bool) (draw : Nat)
    (e : AllotEntry) :
    ∃ cap run, e.offerDraw q delivering draw = { e with tracking := cap, runCount := run } := by
  unfold AllotEntry.offerDraw
  repeat' split
  all_goals exact ⟨_, _, rfl⟩

/-! ### The law of the grant -/

/-- Between recomputes a grant changes by a ramp step alone. -/
theorem EntryMove.grantSound {q : Parameters} {x y : AllotEntry} {m : Nat} (h : EntryMove q x y)
    (hx : x.grantSound m) : y.grantSound m := by
  cases h with
  | same => exact hx
  | advance n =>
    obtain ⟨hbase, hle, hpeak, htimer⟩ := hx
    exact ⟨hbase, hle, hpeak, fun hruns => htimer (by simpa [runDown] using hruns)⟩
  | endTracking =>
    obtain ⟨cap, run, heq⟩ := x.endTracking_eq_tracked
    rw [heq]
    exact hx
  | resetPeak =>
    obtain ⟨hbase, hle, -, htimer⟩ := hx
    exact ⟨hbase, hle, le_rfl, htimer⟩
  | offerDraw delivering draw =>
    obtain ⟨cap, run, heq⟩ := AllotEntry.offerDraw_eq_tracked q delivering draw x
    rw [heq]
    exact hx
  | rampStep => exact AllotEntry.grantSound_rampStep q hx

/-- R28: no move changes a parameter. -/
theorem Move.parameters {s t : State} (h : Move s t) : t.allot.parameters = s.allot.parameters := by
  obtain h | h := h.cases_tables
  · exact congrArg (·.2.2) h.allotTables
  · exact State.tables_parameters h

theorem GrantLaw.of_tables {s t : State} (h : t.tables = s.tables) (hs : GrantLaw s) :
    GrantLaw t := fun p => by
  rw [State.tables_entry h, State.tables_parameters h]
  exact hs p

theorem GrantLaw.move {s t : State} (hs : GrantLaw s) (h : Move s t) : GrantLaw t := fun p => by
  rw [h.parameters]
  exact (h.entry p).grantSound (hs p)

theorem State.targeted_admitted (s : State) (p : Pedestal) :
    (s.targeted p).admitted = (s.recompute.entry p).admitted :=
  (s.recompute_entry_admitted p).symm

theorem State.targeted_target (s : State) (p : Pedestal) :
    (s.targeted p).target = (s.recompute.entry p).target :=
  (s.recompute_entry_target p).symm

/-- R55: admission gives every admitted pedestal its base (R35), so a recompute establishes the laws of the
grant. -/
theorem State.recompute_grantLaw (s : State) : GrantLaw s.recompute := fun p => by
  rw [State.entry_recompute_follow, State.recompute_allot_parameters]
  refine AllotEntry.grantSound_follow _ fun hadmitted => ?_
  rw [State.targeted_admitted] at hadmitted
  obtain ⟨-, hbase, -⟩ := State.recompute_target_of_admitted hadmitted
  rw [State.targeted_target]
  exact hbase

theorem GrantLaw.effect {s t : State} (hs : GrantLaw s) (h : Effect s t) : GrantLaw t :=
  h.keeps (P := GrantLaw) (fun _ _ hs hm => hs.move hm) (fun u _ => u.recompute_grantLaw)
    (fun u _ => u.recompute_grantLaw) (fun u hu => hu.of_tables u.finish_tables)
    (fun cut => hs.of_tables (s.assertReset_tables cut)) afterReset_grantLaw hs

/-- Settles O7: a recompute gives every admitted pedestal its base, and between recomputes only a ramp step
changes a grant, upwards and within its target. -/
theorem stepKeepsGrantLaw : Obligations.StepKeepsGrantLaw := by
  unfold Obligations.StepKeepsGrantLaw
  intro s t hs hstep
  exact step_keeps (P := GrantLaw) (fun _ _ h => h.of_tables rfl)
    (fun s h => h.move (.table (.advance s 1))) (fun _ _ h heffect => h.effect heffect) hs hstep

/-! ### The ramp timer -/

theorem execRampTimerExpiry_eq {s : State} {p : Pedestal} {timer : Option Nat}
    (h : (s.entry p).rampTimer = timer) : exec (.rampTimerExpiry p) s =
      .next (s.expiry timer fun t =>
        t.putEntry p (AllotEntry.rampStep t.allot.parameters (t.entry p))) := by
  rw [← h]
  rfl

theorem State.feeder_putEntry (s : State) (p : Pedestal) (e : AllotEntry) (f : Feeder) :
    (s.putEntry p e).feeder f = s.feeder f :=
  State.feeder_congr (State.putEntry_allot_feeders s p e) f

/-- R29: at a timer's due moment, an entry whose draw tracking stands is no cause of a recompute. -/
theorem recomputeAfter_putEntry {s : State} {p : Pedestal} {e : AllotEntry} (left : Nat)
    (h : e.tracking = (s.entry p).tracking) :
    recomputeAfter s ((s.advance left).putEntry p e) = (s.advance left).putEntry p e := by
  refine recomputeAfter_advance left (fun q => ?_) (fun q => ?_)
    (by rw [State.putEntry_loop]) fun f => ?_
  · rw [State.countsForPower_putEntry, State.advance_countsForPower]
  · rw [State.entry_putEntry]
    split
    · next hq => rw [hq, h]
    · rw [State.advance_entry]
  · rw [State.feeder_putEntry, State.advance_feeder]

/-- Settles O45: the timer that ran to its due moment is written anew, and no input of the recompute
changes. -/
theorem rampExpiryStepsTheGrant : Obligations.RampExpiryStepsTheGrant := by
  unfold Obligations.RampExpiryStepsTheGrant
  intro s p hrun
  refine ⟨fun hstopped => ?_, fun left htimer => ?_⟩
  · rw [execRampTimerExpiry_eq hstopped, State.expiry_none]
  · rw [execRampTimerExpiry_eq htimer, State.expiry_some hrun,
      recomputeAfter_putEntry left (by rw [State.advance_entry]; rfl), State.advance_entry]
    rfl

end Sys2Proof.Machine
end

section
/-! SUPPORT. Derating (chapter 4): what SET FEEDER's arguments give and how its request is treated
(O35), what a temperature code makes of a feeder's entry, and its completion (O54). -/

namespace Sys2Proof.Machine
open Sys2Proof

/-! ### SET FEEDER (R74, R166) -/

/-- R166: arguments in range give a configuration, with the ceiling clamped. -/
theorem feederConfigOf_of_val {sensor : Byte} {on : Bool} {tlow thigh floor : BitVec 16}
    (hsensor : sensor.toNat = on.toNat) (hlow : -300 ≤ tlow.toInt) (hlt : tlow.toInt < thigh.toInt)
    (hhigh : thigh.toInt ≤ 1199) (hfloor : floor.toNat ≤ 1000) (ceiling : BitVec 16) :
    feederConfigOf ceiling sensor tlow thigh floor =
      some { ceiling := min ceiling.toNat 30000, sensorEnabled := on, tlow := tlow.toInt,
             thigh := thigh.toInt, floor := floor.toNat } := by
  have htlow : tlow.toInt ≤ 1199 := by omega
  have hthigh : -300 ≤ thigh.toInt := by omega
  simp [feederConfigOf, flagOf_of_val hsensor, temperatureInRange, hlow, htlow, hthigh, hhigh, hlt,
    hfloor, Config.feederCeilingLimit]

/-- R166: an argument out of range gives none. -/
theorem feederConfigOf_of_out {sensor : Byte} {tlow thigh floor : BitVec 16}
    (h : 2 ≤ sensor.toNat ∨ tlow.toInt < -300 ∨ 1199 < tlow.toInt ∨ thigh.toInt < -300
      ∨ 1199 < thigh.toInt ∨ thigh.toInt ≤ tlow.toInt ∨ 1000 < floor.toNat) (ceiling : BitVec 16) :
    feederConfigOf ceiling sensor tlow thigh floor = none := by
  obtain hsensor | hvalues := h
  · rw [feederConfigOf, flagOf_of_ge hsensor]
  · unfold feederConfigOf
    split
    · rfl
    · refine if_neg fun hranges => ?_
      simp only [temperatureInRange, Bool.and_eq_true, decide_eq_true_eq] at hranges
      omega

theorem State.treatSetFeeder_range {s : State} {b sensor : Byte}
    {ceiling tlow thigh floor : BitVec 16}
    (h : feederOf b = none ∨ feederConfigOf ceiling sensor tlow thigh floor = none) :
    s.treatSetFeeder b ceiling sensor tlow thigh floor = s.answer .range [] := by
  unfold State.treatSetFeeder
  split
  · next hb hconfig =>
    obtain h | h := h
    · cases h.symm.trans hb
    · cases h.symm.trans hconfig
  · rfl

/-- R73: an entry written raises DERATE_CHANGE where it changes the applied factor. -/
theorem State.writeFeeder_eq (s : State) (f : Feeder) (e : FeederEntry) :
    s.writeFeeder f e = if e.applied = (s.feeder f).applied then s.putFeeder f e
      else (s.putFeeder f e).raiseSite .derateChange := by
  simp only [State.writeFeeder, eq_comm]

@[simp] theorem State.writeFeeder_feeder_self (s : State) (f : Feeder) (e : FeederEntry) :
    (s.writeFeeder f e).feeder f = e := by
  rw [State.writeFeeder_eq]
  split
  · exact s.feeder_putFeeder_self f e
  · exact s.feeder_putFeeder_self f e

theorem State.writeFeeder_feeder_of_ne (s : State) {f g : Feeder} (e : FeederEntry) (h : g ≠ f) :
    (s.writeFeeder f e).feeder g = s.feeder g := by
  rw [State.writeFeeder_eq]
  split
  · exact s.feeder_putFeeder_of_ne e h
  · exact s.feeder_putFeeder_of_ne e h

/-- R74: the three cases, field by field: the sensor off, newly on, and on as before. -/
theorem FeederEntry.configure_eq (e : FeederEntry) (c : FeederConfig) : e.configure c =
    { cfg := c
      effective := e.effective
      latestTemp := e.latestTemp
      computed := if c.sensorEnabled then e.computed else none
      applied :=
        if c.sensorEnabled then
          if e.cfg.sensorEnabled then
            if e.sensorFault then c.floor else max e.applied c.floor
          else e.applied
        else 1000
      sensorFault := c.sensorEnabled && e.sensorFault
      firstMark := true } := by
  unfold FeederEntry.configure
  cases hnew : c.sensorEnabled with
  | false => rfl
  | true => cases hold : e.cfg.sensorEnabled <;> rfl

/-- A signed field of two bytes carries its bytes. -/
theorem signedBytes_toInt (v : BitVec 16) : signedBytes 2 v.toInt = bytesOf 2 v.toNat := by
  have hmod : (v.toInt % (256 : Int) ^ 2).toNat = v.toNat := by
    rw [BitVec.toInt_eq_toNat_bmod, show (256 : Int) ^ 2 = ((2 ^ 16 : Nat) : Int) from rfl,
      Int.bmod_emod, ← Int.natCast_mod, Int.toNat_natCast, Nat.mod_eq_of_lt v.isLt]
  rw [signedBytes, hmod]

theorem State.treatSetFeeder_taken {s : State} {b sensor : Byte}
    {ceiling tlow thigh floor : BitVec 16} {f : Feeder} {c : FeederConfig}
    (hb : feederOf b = some f)
    (hconfig : feederConfigOf ceiling sensor tlow thigh floor = some c) :
    s.treatSetFeeder b ceiling sensor tlow thigh floor =
      let new := (s.feeder f).configure c
      (s.writeFeeder f new).recompute.answer (doneIf (decide (c.ceiling = ceiling.toNat)))
        (FeederEntry.replyBody { new with effective := new.ceilingNow }) := by
  unfold State.treatSetFeeder
  rw [hb, hconfig]
  dsimp only
  rw [State.recompute_feeder, State.writeFeeder_feeder_self]

/-- A served site request, answered after an effect that leaves the port's state alone. -/
theorem State.siteRequest_replied_of_state {s t : State} {r : SiteRequest} {o : OutcomeCode}
    {body : List Byte} (h : s.siteServes = true) (ht : r.treat s = t.answer o body)
    (hstate : t.site.state = s.site.state) :
    s.siteRequest r = (t.siteReplied r.kind o body).finish := by
  rw [State.siteRequest_answered h ht, ← hstate]
  rfl

theorem State.writeFeeder_site_state (s : State) (f : Feeder) (e : FeederEntry) :
    (s.writeFeeder f e).site.state = s.site.state := by
  rw [State.writeFeeder_eq]
  split <;> rfl

/-- Table 12.2: an ON/OFF byte is the code of its value. -/
theorem flagByte_eq_ofNat (on : Bool) : flagByte on = BitVec.ofNat 8 on.toNat := by
  cases on <;> rfl

/-- Settles O35: the arguments are read first; an entry that is taken is written, and answered as it
stands after the recompute. -/
theorem setFeederStores : Obligations.SetFeederStores := by
  unfold Obligations.SetFeederStores
  intro s b sensor ceiling tlow thigh floor hserve
  refine ⟨fun hrange => ?_, fun f on hb hsensor hlow hlt hhigh hfloor => ?_⟩
  · have hnone : feederOf b = none ∨ feederConfigOf ceiling sensor tlow thigh floor = none :=
      hrange.imp feederOf_of_ge fun h => feederConfigOf_of_out h ceiling
    exact congrArg _ (State.siteRequest_refused (r := .setFeeder b ceiling sensor tlow thigh floor)
      hserve (State.treatSetFeeder_range hnone))
  · have htaken := State.treatSetFeeder_taken (s := s) (feederOf_of_val hb)
      (feederConfigOf_of_val hsensor hlow hlt hhigh hfloor ceiling)
    have hreplied := State.siteRequest_replied_of_state
      (r := .setFeeder b ceiling sensor tlow thigh floor) hserve htaken
      (s.writeFeeder_site_state f _)
    simp only [FeederEntry.configure_eq, State.writeFeeder_eq, FeederEntry.replyBody,
      FeederEntry.ceilingNow, flagByte_eq_ofNat, signedBytes_toInt, doneIf, decide_eq_true_eq,
      min_eq_left_iff] at hreplied
    exact congrArg _ hreplied

/-! ### A temperature code (R67 to R72) -/

theorem inRange_iff {code : BitVec 12} :
    inRange code = true ↔ 16 ≤ code.toNat ∧ code.toNat ≤ 4079 := by
  simp [inRange]

/-- R71: the difference without sign, as the larger factor less the smaller. -/
theorem factorDifference_eq (x y : Nat) : factorDifference x y = max x y - min x y := by
  unfold factorDifference
  omega

theorem FeederEntry.applies_iff {e : FeederEntry} {f : Nat} : e.applies f = true ↔
    e.firstMark = true ∨ 10 ≤ max f e.applied - min f e.applied ∨ f = 1000 ∨ f = e.cfg.floor := by
  simp [FeederEntry.applies, factorDifference_eq, or_assoc]

/-- R69: a code for a feeder whose sensor is off. -/
theorem FeederEntry.evaluate_of_disabled {e : FeederEntry} (h : e.cfg.sensorEnabled = false)
    (code : BitVec 12) : e.evaluate code = { e with
      latestTemp :=
        if 16 ≤ code.toNat ∧ code.toNat ≤ 4079 then some (temperatureOf code) else none
      computed := none, sensorFault := false, applied := 1000 } := by
  simp only [FeederEntry.evaluate, h, latestTemperature, inRange_iff, Bool.not_false, if_true]

/-- R72: a code out of range is a sensor fault. -/
theorem FeederEntry.evaluate_of_fault {e : FeederEntry} (h : e.cfg.sensorEnabled = true)
    {code : BitVec 12} (hcode : ¬ (16 ≤ code.toNat ∧ code.toNat ≤ 4079)) :
    e.evaluate code = { e with
      latestTemp := none, computed := none, sensorFault := true, firstMark := true
      applied := e.cfg.floor } := by
  have hout : inRange code = false := Bool.eq_false_iff.mpr fun hin => hcode (inRange_iff.mp hin)
  simp [FeederEntry.evaluate, h, hout]

/-- R70, R71: a code in range computes a factor, which is applied outside the band. -/
theorem FeederEntry.evaluate_of_inRange {e : FeederEntry} (h : e.cfg.sensorEnabled = true)
    {code : BitVec 12} (hcode : 16 ≤ code.toNat ∧ code.toNat ≤ 4079) :
    let factor := curveFactor e.cfg (temperatureOf code)
    e.evaluate code = { e with
      latestTemp := some (temperatureOf code), computed := some factor, sensorFault := false
      firstMark := false
      applied :=
        if e.firstMark = true ∨ 10 ≤ max factor e.applied - min factor e.applied ∨ factor = 1000
          ∨ factor = e.cfg.floor then factor else e.applied } := by
  simp only [FeederEntry.evaluate, h, inRange_iff.mpr hcode, Bool.not_true, Bool.false_eq_true,
    if_false, FeederEntry.applies_iff]

/-! ### TEMPERATURE_COMPLETION (R65, R73) -/

/-- R64, R65: the scan goes on with the SUPPLY conversion behind the channel's slot. -/
theorem State.storeCode_eq (s : State) (f : Feeder) (code : BitVec 12) :
    s.storeCode f code = { s with meas := { s.meas with
      scanSlot := Fin.ofNat 8 (2 * Feeder.code f + 1)
      latest := putCell s.meas.latest (Feeder.idx f) (some code) } } := by
  cases f <;> rfl

theorem State.storeCode_feeder (s : State) (f : Feeder) (code : BitVec 12) (g : Feeder) :
    (s.storeCode f code).feeder g = s.feeder g := rfl

/-- R29, R73: of the entry written for a code, a changed applied factor alone is a cause of the
recompute. -/
theorem recomputeAfter_writeFeeder (s : State) (f : Feeder) (code : BitVec 12) (e : FeederEntry) :
    let held := s.storeCode f code
    recomputeAfter s (held.writeFeeder f e) =
      if e.applied = (s.feeder f).applied then held.putFeeder f e
      else ((held.putFeeder f e).raiseSite .derateChange).recompute := by
  dsimp only
  rw [State.writeFeeder_eq, State.storeCode_feeder]
  split
  · next hsame =>
    refine recomputeAfter_of_noCause (fun p => ?_) fun g => ?_
    · exact pedestalCause_eq_false rfl rfl rfl rfl
    · by_cases hg : g = f
      · rw [hg, State.feeder_putFeeder_self, hsame]
      · rw [State.feeder_putFeeder_of_ne _ e hg, State.storeCode_feeder]
  · next hchanged =>
    refine recomputeAfter_of_factor f ?_
    rwa [State.feeder_raiseSite, State.feeder_putFeeder_self]

theorem exec_temperatureCompletion_of_held {s : State} (hrun : s.resetAsserted = false)
    (hrestored : s.park.restored = false) (f : Feeder) (code : BitVec 12) :
    exec (.temperatureCompletion f code) s = .next (s.storeCode f code).finish := by
  show Host.Outcome.next (s.event _) = _
  rw [State.event_of_running hrun]
  dsimp only
  rw [if_neg (by simp [hrestored]),
    recomputeAfter_of_same (s := s) (t := s.storeCode f code) rfl rfl rfl]

theorem exec_temperatureCompletion_of_restored {s : State} (hrun : s.resetAsserted = false)
    (hrestored : s.park.restored = true) (f : Feeder) (code : BitVec 12) :
    let new := (s.feeder f).evaluate code
    let held := s.storeCode f code
    exec (.temperatureCompletion f code) s = .next
      (if new.applied = (s.feeder f).applied then held.putFeeder f new
        else ((held.putFeeder f new).raiseSite .derateChange).recompute).finish := by
  show Host.Outcome.next (s.event _) = _
  rw [State.event_of_running hrun]
  dsimp only
  rw [if_pos hrestored, State.evaluateCode, State.storeCode_feeder, recomputeAfter_writeFeeder]

/-- Settles O54: the code is held, and once the configuration has been restored the entry is evaluated
by the three cases of the sensor. -/
theorem temperatureCodesDerate : Obligations.TemperatureCodesDerate := by
  unfold Obligations.TemperatureCodesDerate
  intro s f code hrun
  refine ⟨fun hheld => ?_, fun hrestored => ⟨fun hoff => ?_, fun hon hout => ?_, fun hon hin => ?_⟩⟩
  · rw [exec_temperatureCompletion_of_held hrun hheld, State.storeCode_eq]
  all_goals
    rw [exec_temperatureCompletion_of_restored hrun hrestored, State.storeCode_eq]
  · rw [FeederEntry.evaluate_of_disabled hoff]
    rfl
  · rw [FeederEntry.evaluate_of_fault hon hout]
  · rw [FeederEntry.evaluate_of_inRange hon hin]
    rfl

end Sys2Proof.Machine
end

section
/-! SUPPORT. The end of the restore (R69, R129, R177): what the settings area and the counter cell
give, the evaluation of the held codes feeder by feeder, and what the event's end leaves of both. -/

namespace Sys2Proof.Machine
open Sys2Proof

/-! ### What the end of an event leaves of the store and of the notices (R112, R157, R174) -/

theorem State.startItem_medium (s : State) (item : WorkItem) :
    (s.startItem item).store.array = s.store.array
      ∧ (s.startItem item).store.corrected = s.store.corrected := by
  unfold State.startItem
  repeat' split
  all_goals exact ⟨rfl, rfl⟩

theorem State.finish_medium (s : State) : s.finish.store.array = s.store.array
    ∧ s.finish.store.corrected = s.store.corrected := by
  show s.startWork.store.array = _ ∧ s.startWork.store.corrected = _
  unfold State.startWork
  repeat' split
  · exact ⟨rfl, rfl⟩
  · exact State.startItem_medium _ _
  · exact State.startItem_medium _ _
  · exact ⟨rfl, rfl⟩

theorem cell_setPending_level {n : Nat} (v : Vector Notice n) (i k : Fin n) (b : Bool) :
    (cell (setPending v i b) k).level = (cell v k).level := by
  rw [setPending, cell_putCell]
  split
  · next h => rw [h]
  · rfl

theorem cell_setPending_of_ne {n : Nat} (v : Vector Notice n) {i k : Fin n} (b : Bool) (h : k ≠ i) :
    cell (setPending v i b) k = cell v k :=
  cell_putCell_of_ne v _ h

theorem cell_setPending_self {n : Nat} (v : Vector Notice n) (i : Fin n) (b : Bool) :
    (cell (setPending v i b) i).pending = b :=
  congrArg Notice.pending (cell_putCell_self v i _)

theorem State.finish_payLevel (s : State) (k : Fin 5) :
    (cell s.finish.pay.notices k).level = (cell s.pay.notices k).level := by
  show (cell s.startWork.payNotices k).level = _
  simp only [State.payNotices, cell_setPending_level, State.startWork_pay]

theorem State.finish_siteLevel (s : State) (k : Fin 7) :
    (cell s.finish.site.notices k).level = (cell s.site.notices k).level := by
  show (cell s.startWork.siteNotices k).level = _
  rw [State.siteNotices, cell_setPending_level, State.startWork_site]

/-- R174: SENSOR_FAULT alone follows its condition at the end of an event. -/
theorem State.finish_siteNotice (s : State) {k : Fin 7} (h : k ≠ SiteCause.sensorFault.idx) :
    cell s.finish.site.notices k = cell s.site.notices k := by
  show cell s.startWork.siteNotices k = _
  rw [State.siteNotices, cell_setPending_of_ne _ _ h, State.startWork_site]

/-! ### The settings area and the counter cell (R126, R129) -/

/-- What an area gives at the restore: its contents, or what stands for them when they are lost. -/
def areaValue {α : Type} (x : Area α) (default : α) : α :=
  match x.contents with
  | .good v => v
  | _ => default

/-- An area whose contents are lost. -/
def areaLost {α : Type} (x : Area α) : Bool :=
  match x.contents with
  | .good _ => false
  | _ => true

theorem areaValue_cases {α : Type} (x : Area α) (default : α) :
    x.contents = .good (areaValue x default)
      ∨ areaLost x = true ∧ (∀ v, x.contents ≠ .good v) ∧ areaValue x default = default := by
  unfold areaValue areaLost
  cases x.contents with
  | blank => exact .inr ⟨rfl, nofun, rfl⟩
  | bad => exact .inr ⟨rfl, nofun, rfl⟩
  | good v => exact .inl rfl

theorem cell_withLevels {n : Nat} (v : Vector Notice n) (levels : Vector (Fin 8) n) (k : Fin n) :
    cell (withLevels v levels) k = { cell v k with level := cell levels k } :=
  cell_mapCells _ _ _

/-- R126, R129: the site notices with SETTINGS_LOST raised where something was lost. -/
def lostNotices (lost : Bool) (v : Vector Notice 7) : Vector Notice 7 :=
  if lost then setPending v SiteCause.settingsLost.idx true else v

theorem lostNotices_lostNotices (x y : Bool) (v : Vector Notice 7) :
    lostNotices y (lostNotices x v) = lostNotices (x || y) v := by
  cases x <;> cases y <;> simp [lostNotices, setPending]

theorem State.restoreSettings_eq (s : State) : s.restoreSettings =
    let t := s.loadSettings (areaValue s.store.array.settings Settings.default)
    { t with site := { t.site with
        notices := lostNotices (areaLost s.store.array.settings) t.site.notices } } := by
  unfold State.restoreSettings areaValue areaLost
  cases s.store.array.settings.contents <;> rfl

theorem State.restoreCounter_eq (s : State) : s.restoreCounter =
    let n := areaValue s.store.array.counter 1
    { s with
      account := { s.account with nextNumber := n, reservationLimit := n }
      site := { s.site with
        notices := lostNotices (areaLost s.store.array.counter) s.site.notices } } := by
  unfold State.restoreCounter areaValue areaLost
  cases s.store.array.counter.contents <;> rfl

/-- R111: the areas as the restore reads them. -/
def State.settingsRead (s : State) (r : RestoreReading) : Area Settings :=
  r.settings.getD s.store.array.settings

def State.counterRead (s : State) (r : RestoreReading) : Area Nat :=
  r.counter.getD s.store.array.counter

/-- The settings that the restore loads. -/
def State.settingsLoaded (s : State) (r : RestoreReading) : Settings :=
  areaValue (s.settingsRead r) Settings.default

/-- The restored machine before the held codes are evaluated. -/
def State.loaded (s : State) (r : RestoreReading) : State :=
  let x := s.settingsRead r
  let y := s.counterRead r
  let c := s.settingsLoaded r
  { s with
    allot := (s.loadSettings c).allot
    account := { s.account with
      rows := c.rows, bindings := c.bindings
      nextNumber := areaValue y 1, reservationLimit := areaValue y 1 }
    pay := { s.pay with notices := withLevels s.pay.notices c.payLevels }
    site := { s.site with
      notices := lostNotices (areaLost x || areaLost y) (withLevels s.site.notices c.siteLevels) }
    park := { s.park with
      startStep := some .scan, restored := true, startQuiesced := c.startQuiesced }
    store := { s.store with
      array := { s.store.array with settings := x, counter := y }
      corrected := min (s.store.corrected + (x.singles + y.singles)) Config.correctedLimit } }

theorem State.restored_eq (s : State) (r : RestoreReading) :
    s.restored r = [Feeder.a, .b, .c, .d].foldl State.evaluateHeld (s.loaded r) := by
  unfold State.restored State.loaded
  dsimp only
  rw [State.restoreCounter_eq, State.restoreSettings_eq, ← lostNotices_lostNotices]
  rfl

/-! ### The held codes (R69) -/

/-- R69: an entry after the evaluation of the latest code, if one is held. -/
def FeederEntry.evaluateLatest (e : FeederEntry) : Option (BitVec 12) → FeederEntry
  | some code => e.evaluate code
  | none => e

theorem FeederEntry.evaluateLatest_cfg (e : FeederEntry) (held : Option (BitVec 12)) :
    (e.evaluateLatest held).cfg = e.cfg := by
  unfold FeederEntry.evaluateLatest FeederEntry.evaluate
  repeat' split
  all_goals rfl

theorem State.evaluateHeld_eq (s : State) (f : Feeder) : s.evaluateHeld f =
    s.writeFeeder f ((s.feeder f).evaluateLatest (cell s.meas.latest (Feeder.idx f))) := by
  unfold State.evaluateHeld
  split
  · next code h => rw [h]; rfl
  · next h =>
    rw [h, State.writeFeeder_eq]
    exact (congrArg (fun v => ({ s with allot := { s.allot with feeders := v } } : State))
      (putCell_cell s.allot.feeders (Feeder.idx f))).symm.trans (if_pos rfl).symm

/-- R69, R73: the evaluation of held codes changes its feeders' entries and DERATE_CHANGE alone. -/
structure State.derates (t s : State) (among : List Feeder) : Prop where
  rest : t = { s with
    allot := { s.allot with feeders := t.allot.feeders }
    site := { s.site with notices := t.site.notices } }
  evaluated : ∀ f ∈ among, t.feeder f =
    (s.feeder f).evaluateLatest (cell s.meas.latest (Feeder.idx f))
  others : ∀ f, f ∉ among → t.feeder f = s.feeder f
  raised : (cell t.site.notices 1).pending = true ↔ (cell s.site.notices 1).pending = true
    ∨ ∃ f ∈ among, (t.feeder f).applied ≠ (s.feeder f).applied
  notices : ∀ k, k ≠ 1 → cell t.site.notices k = cell s.site.notices k
  levels : ∀ k, (cell t.site.notices k).level = (cell s.site.notices k).level

theorem State.writeFeeder_notices (s : State) (f : Feeder) (e : FeederEntry) :
    (s.writeFeeder f e).site.notices =
      if e.applied = (s.feeder f).applied then s.site.notices
      else setPending s.site.notices 1 true := by
  rw [State.writeFeeder_eq]
  split <;> rfl

theorem State.evaluateHeld_derates (s : State) (f : Feeder) : (s.evaluateHeld f).derates s [f] := by
  rw [State.evaluateHeld_eq]
  generalize hnew : (s.feeder f).evaluateLatest (cell s.meas.latest (Feeder.idx f)) = new
  refine { rest := ?_, evaluated := ?_, others := ?_, raised := ?_, notices := ?_, levels := ?_ }
  · rw [State.writeFeeder_eq]
    split <;> rfl
  · intro g hg
    rw [List.mem_singleton.mp hg, State.writeFeeder_feeder_self, hnew]
  · exact fun g hg => s.writeFeeder_feeder_of_ne new (List.ne_of_not_mem_cons hg)
  · rw [State.writeFeeder_notices]
    split
    · next hsame => simp [hsame]
    · next hchanged => simp [cell_setPending_self, hchanged]
  · intro k hk
    rw [State.writeFeeder_notices]
    split
    · rfl
    · exact cell_setPending_of_ne _ true hk
  · intro k
    rw [State.writeFeeder_notices]
    split
    · rfl
    · exact cell_setPending_level _ _ _ true

/-- The evaluation of one feeder's code does not see that of another's. -/
theorem State.derates_cons {t u s : State} {f : Feeder} {among : List Feeder} (hf : f ∉ among)
    (h : u.derates s [f]) (k : t.derates u among) : t.derates s (f :: among) := by
  have hmeas : u.meas = s.meas := by rw [h.rest]
  have hself : t.feeder f = u.feeder f := k.others f hf
  have hother (g : Feeder) (hg : g ≠ f) : u.feeder g = s.feeder g :=
    h.others g (by simpa using hg)
  have hne (g : Feeder) (hg : g ∈ among) : g ≠ f := fun e => hf (e ▸ hg)
  refine { rest := ?_, evaluated := ?_, others := ?_, raised := ?_, notices := ?_, levels := ?_ }
  · rw [k.rest, h.rest]
  · intro g hg
    obtain rfl | hg := List.mem_cons.mp hg
    · rw [hself, h.evaluated g (List.mem_singleton_self g)]
    · rw [k.evaluated g hg, hother g (hne g hg), hmeas]
  · intro g hg
    rw [List.mem_cons, not_or] at hg
    rw [k.others g hg.2, hother g hg.1]
  · rw [k.raised, h.raised, or_assoc]
    simp only [List.mem_cons, exists_eq_or_imp, List.not_mem_nil, or_false, exists_eq_left, hself]
    refine or_congr_right (or_congr_right (exists_congr fun g => and_congr_right fun hg => ?_))
    rw [hother g (hne g hg)]
  · exact fun i hi => (k.notices i hi).trans (h.notices i hi)
  · exact fun i => (k.levels i).trans (h.levels i)

theorem State.evaluateAll_derates {among : List Feeder} (h : among.Nodup) (s : State) :
    (among.foldl State.evaluateHeld s).derates s among := by
  induction among generalizing s with
  | nil =>
    exact { rest := rfl, evaluated := nofun, others := fun _ _ => rfl, raised := by simp
            notices := fun _ _ => rfl, levels := fun _ => rfl }
  | cons f rest ih =>
    obtain ⟨hf, hrest⟩ := List.nodup_cons.mp h
    exact State.derates_cons hf (s.evaluateHeld_derates f) (ih hrest _)

theorem mem_feeders (f : Feeder) : f ∈ [Feeder.a, .b, .c, .d] := by
  cases f <;> decide

theorem State.restored_derates (s : State) (r : RestoreReading) :
    (s.restored r).derates (s.loaded r) [.a, .b, .c, .d] := by
  rw [State.restored_eq]
  exact State.evaluateAll_derates (by decide) _

/-! ### The machine at the restore's end (R177) -/

/-- The machine after RESTORE_END. -/
def State.restoreEnded (s : State) (r : RestoreReading) : State := (s.endRestore r).finish

theorem exec_restoreEnd {s : State} (hrun : s.resetAsserted = false)
    (hstep : s.park.startStep = some .restore) (r : RestoreReading) :
    exec (.restoreEnd r) s = .next (s.restoreEnded r) := by
  show execRestoreEnd r s = _
  simp only [execRestoreEnd, hstep, State.quiet_of_running hrun]
  rfl

section
variable (s : State) (r : RestoreReading)

/-- The restore's end writes these blocks as the restore loaded them. -/
theorem State.restoreEnded_blocks :
    (s.restoreEnded r).account = (s.loaded r).account ∧ (s.restoreEnded r).park = (s.loaded r).park
      ∧ (s.restoreEnded r).time = s.time ∧ (s.restoreEnded r).loop = s.loop
      ∧ (s.restoreEnded r).meas = s.meas
      ∧ (s.restoreEnded r).store.array = (s.loaded r).store.array
      ∧ (s.restoreEnded r).store.corrected = (s.loaded r).store.corrected := by
  have hrest := (s.restored_derates r).rest
  obtain ⟨harray, hcorrected⟩ := (s.restored r).recompute.finish_medium
  simp only [State.restoreEnded, State.endRestore_eq, harray, hcorrected, State.finish_account,
    State.finish_park, State.finish_time, State.finish_loop, State.finish_meas,
    State.recompute_account, State.recompute_park, State.recompute_time, State.recompute_loop,
    State.recompute_meas, State.recompute_store]
  rw [hrest]
  exact ⟨rfl, rfl, rfl, rfl, rfl, rfl, rfl⟩

theorem State.restoreEnded_allot : (s.restoreEnded r).allot = (s.restored r).recompute.allot :=
  State.finish_allot _

theorem State.restoreEnded_feeder (f : Feeder) :
    let new := ((s.loaded r).feeder f).evaluateLatest (cell s.meas.latest (Feeder.idx f))
    (s.restoreEnded r).feeder f = { new with effective := new.ceilingNow } := by
  dsimp only
  rw [State.restoreEnded, State.feeder_finish, State.endRestore_eq, State.recompute_feeder,
    (s.restored_derates r).evaluated f (mem_feeders f)]
  rfl

theorem State.loaded_feeder (f : Feeder) : (s.loaded r).feeder f =
    { s.feeder f with cfg := cell (s.settingsLoaded r).feeders (Feeder.idx f) } :=
  cell_mapCells _ _ _

theorem State.loaded_cfg (p : Pedestal) :
    ((s.loaded r).entry p).cfg = cell (s.settingsLoaded r).pedestals p := by
  show (cell (mapCells (fun p (e : AllotEntry) =>
    { e with cfg := cell (s.settingsLoaded r).pedestals p }) s.allot.entries) p).cfg = _
  rw [cell_mapCells]

theorem State.restoreEnded_cfg (p : Pedestal) :
    ((s.restoreEnded r).entry p).cfg = cell (s.settingsLoaded r).pedestals p := by
  have hentry : (s.restored r).entry p = (s.loaded r).entry p := by
    rw [(s.restored_derates r).rest]
    rfl
  rw [State.restoreEnded, State.entry_finish, State.endRestore_eq, State.recompute_entry_cfg,
    hentry, State.loaded_cfg]

theorem State.restoreEnded_site :
    (s.restoreEnded r).allot.siteCeiling = (s.settingsLoaded r).siteCeiling
    ∧ (s.restoreEnded r).allot.parameters = (s.settingsLoaded r).parameters := by
  rw [State.restoreEnded_allot, (s.restored_derates r).rest]
  exact ⟨rfl, rfl⟩

theorem State.restoreEnded_payLevel (k : Fin 5) :
    (cell (s.restoreEnded r).pay.notices k).level = cell (s.settingsLoaded r).payLevels k := by
  rw [State.restoreEnded, State.finish_payLevel, State.endRestore_eq, State.recompute_pay,
    (s.restored_derates r).rest]
  exact congrArg Notice.level (cell_withLevels _ _ k)

theorem lostNotices_level (lost : Bool) (v : Vector Notice 7) (k : Fin 7) :
    (cell (lostNotices lost v) k).level = (cell v k).level := by
  cases lost
  · rfl
  · exact cell_setPending_level v _ k true

theorem State.restoreEnded_siteLevel (k : Fin 7) :
    (cell (s.restoreEnded r).site.notices k).level = cell (s.settingsLoaded r).siteLevels k := by
  rw [State.restoreEnded, State.finish_siteLevel, State.endRestore_eq, State.recompute_site,
    (s.restored_derates r).levels]
  exact (lostNotices_level _ _ k).trans (congrArg Notice.level (cell_withLevels _ _ k))

/-- R129: SETTINGS_LOST is pending after the restore of a lost area. -/
theorem State.restoreEnded_lost
    (h : areaLost (s.settingsRead r) = true ∨ areaLost (s.counterRead r) = true) :
    (cell (s.restoreEnded r).site.notices 4).pending = true := by
  have hlost : (areaLost (s.settingsRead r) || areaLost (s.counterRead r)) = true := by
    simpa using h
  rw [State.restoreEnded, State.finish_siteNotice _ (by decide), State.endRestore_eq,
    State.recompute_site, (s.restored_derates r).notices 4 (by decide)]
  show (cell (lostNotices _ _) 4).pending = true
  rw [hlost]
  exact cell_setPending_self _ _ true

/-- R73: DERATE_CHANGE is pending where it was, and where an applied factor changed. -/
theorem State.restoreEnded_derateChange :
    (cell (s.restoreEnded r).site.notices 1).pending = true ↔
      (cell s.site.notices 1).pending = true
        ∨ ∃ f, ((s.restoreEnded r).feeder f).applied ≠ (s.feeder f).applied := by
  have hpending : (cell (s.loaded r).site.notices 1).pending = (cell s.site.notices 1).pending := by
    show (cell (lostNotices _ _) 1).pending = _
    have hkeep (lost : Bool) (v : Vector Notice 7) : cell (lostNotices lost v) 1 = cell v 1 := by
      cases lost
      · rfl
      · exact cell_setPending_of_ne v true (by decide)
    rw [hkeep, cell_withLevels]
  have happlied (f : Feeder) :
      ((s.restoreEnded r).feeder f).applied = ((s.restored r).feeder f).applied := by
    rw [State.restoreEnded, State.feeder_finish, State.endRestore_eq, State.recompute_feeder]
  have hloaded (f : Feeder) : ((s.loaded r).feeder f).applied = (s.feeder f).applied := by
    rw [State.loaded_feeder]
  have hraised := (s.restored_derates r).raised
  simp only [hpending, hloaded, mem_feeders, true_and] at hraised
  simp only [happlied]
  rw [State.restoreEnded, State.finish_siteNotice _ (by decide), State.endRestore_eq,
    State.recompute_site, hraised]

end

end Sys2Proof.Machine
end

section
/-! SUPPORT. What the scan rebuilds (R111, R124, R125): the array as it is read, the records found in it
and kept, their order in the settlement queue, and the close-sequence counter behind them. -/

namespace Sys2Proof.Machine
open Sys2Proof

/-! ### The array as the scan reads it (R111) -/

/-- The slots of an array after the readings of a scan. -/
def agedCells (slots : Vector SlotCells 48) (aged : List (RecordSlot × SlotCells)) :
    Vector SlotCells 48 :=
  aged.foldl (fun v x => putCell v x.1 x.2) slots

theorem State.ageSlots_array (s : State) (aged : List (RecordSlot × SlotCells)) :
    (s.ageSlots aged).store.array =
      { s.store.array with slots := agedCells s.store.array.slots aged } := by
  unfold State.ageSlots agedCells
  induction aged generalizing s with
  | nil => rfl
  | cons x rest ih => exact ih (s.putSlotCells x.1 x.2)

theorem agedCells_of_not_mem {aged : List (RecordSlot × SlotCells)} {i : RecordSlot}
    (h : i ∉ aged.map (·.1)) (slots : Vector SlotCells 48) :
    cell (agedCells slots aged) i = cell slots i := by
  unfold agedCells
  induction aged generalizing slots with
  | nil => rfl
  | cons x rest ih =>
    rw [List.map_cons, List.mem_cons, not_or] at h
    exact (ih h.2 _).trans (cell_putCell_of_ne slots x.2 h.1)

theorem agedCells_of_mem {aged : List (RecordSlot × SlotCells)} {i : RecordSlot} {c : SlotCells}
    (hnodup : (aged.map (·.1)).Nodup) (h : (i, c) ∈ aged) (slots : Vector SlotCells 48) :
    cell (agedCells slots aged) i = c := by
  unfold agedCells
  induction aged generalizing slots with
  | nil => cases h
  | cons x rest ih =>
    rw [List.map_cons, List.nodup_cons] at hnodup
    obtain rfl | h := List.mem_cons.mp h
    · exact (agedCells_of_not_mem hnodup.1 _).trans (cell_putCell_self slots i c)
    · exact ih hnodup.2 h _

/-! ### What a slot holds (Table 7.3, R125) -/

/-- R125: the slot holds a copy of the record that its header numbers. -/
def holdsCopy (x : SlotCells) (n c : Nat) : Prop :=
  x.header = .valid n c ∧ x.markBlank = true ∧ x.body ≠ .blank

/-- R111: the slot's body has an uncorrectable error. -/
def holdsDamaged (x : SlotCells) : Prop := ∃ image, x.body = .damaged image

theorem isDamaged_iff {x : SlotCells} : Body.isDamaged x.body = true ↔ holdsDamaged x := by
  unfold holdsDamaged
  cases x.body <;> simp [Body.isDamaged]

theorem isBlank_iff {x : SlotCells} :
    isBlank x = true ↔ x.header = .blank ∧ x.body = .blank ∧ x.markBlank = true := by
  simp only [isBlank, Bool.and_eq_true, decide_eq_true_eq]
  tauto

theorem isBlank_of_holdsCopy {x : SlotCells} {n c : Nat} (h : holdsCopy x n c) :
    isBlank x = false := by
  simp [isBlank, h.1]

theorem rebuiltBody_eq_none_iff {n c : Nat} {b : Body} : rebuiltBody n c b = none ↔ b = .blank := by
  cases b <;> simp [rebuiltBody]

/-- R125: what the scan makes of a slot: the header's numbers, the body's contents, and CORRUPT. -/
theorem foundIn_eq_some_iff {i : RecordSlot} {x : SlotCells} {y : Found} :
    foundIn i x = some y ↔ y.slot = i ∧ holdsCopy x y.session y.closeSequence
      ∧ rebuiltBody y.session y.closeSequence x.body = some y.body
      ∧ y.corrupt = Body.isDamaged x.body := by
  unfold foundIn holdsCopy
  split
  · next n c hheader =>
    by_cases hmark : x.markBlank = true
    · rw [if_pos hmark]
      split
      · next b hbody =>
        have hblank : x.body ≠ .blank := fun h => by simp [h, rebuiltBody] at hbody
        constructor
        · rintro ⟨rfl⟩
          exact ⟨rfl, ⟨hheader, hmark, hblank⟩, hbody, rfl⟩
        · rintro ⟨rfl, ⟨hnumbers, -⟩, hb, hcorrupt⟩
          obtain ⟨rfl, rfl⟩ : n = y.session ∧ c = y.closeSequence := by
            simpa [hheader] using hnumbers
          obtain rfl : b = y.body := by simpa [hbody] using hb
          rw [← hcorrupt]
      · next hbody => simp [rebuiltBody_eq_none_iff.mp hbody]
    · simp [hmark]
  · next hheader =>
    refine iff_of_false nofun ?_
    rintro ⟨-, ⟨hnumbers, -⟩, -⟩
    exact hheader _ _ hnumbers

/-! ### The records found (R125) -/

theorem recordSlots_eq : recordSlots = List.finRange 48 := by decide

theorem mem_recordSlots (i : RecordSlot) : i ∈ recordSlots := by
  rw [recordSlots_eq]
  exact List.mem_finRange i

theorem recordSlots_sorted : recordSlots.Pairwise (· < ·) := by
  rw [recordSlots_eq]
  exact List.pairwise_lt_finRange 48

theorem NvArray.mem_found_iff {a : NvArray} {y : Found} :
    y ∈ a.found ↔ foundIn y.slot (cell a.slots y.slot) = some y := by
  unfold NvArray.found
  rw [List.mem_filterMap]
  constructor
  · rintro ⟨i, -, h⟩
    rwa [(foundIn_eq_some_iff.mp h).1]
  · exact fun h => ⟨y.slot, mem_recordSlots _, h⟩

/-- The record of every copy is found. -/
theorem NvArray.found_of_holdsCopy {a : NvArray} {i : RecordSlot} {n c : Nat}
    (h : holdsCopy (cell a.slots i) n c) : ∃ y ∈ a.found,
      y.slot = i ∧ y.session = n ∧ y.closeSequence = c := by
  obtain ⟨body, hbody⟩ : ∃ body, rebuiltBody n c (cell a.slots i).body = some body :=
    Option.ne_none_iff_exists'.mp fun hnone => h.2.2 (rebuiltBody_eq_none_iff.mp hnone)
  exact ⟨{ slot := i, session := n, closeSequence := c, body := body,
           corrupt := Body.isDamaged (cell a.slots i).body },
    NvArray.mem_found_iff.mpr (foundIn_eq_some_iff.mpr ⟨rfl, h, hbody, rfl⟩), rfl, rfl, rfl⟩

/-- What stands in the array behind a record found. -/
theorem NvArray.holdsCopy_of_found {a : NvArray} {y : Found} (h : y ∈ a.found) :
    holdsCopy (cell a.slots y.slot) y.session y.closeSequence
      ∧ rebuiltBody y.session y.closeSequence (cell a.slots y.slot).body = some y.body
      ∧ (y.corrupt = true ↔ holdsDamaged (cell a.slots y.slot)) := by
  obtain ⟨-, hcopy, hbody, hcorrupt⟩ := foundIn_eq_some_iff.mp (NvArray.mem_found_iff.mp h)
  exact ⟨hcopy, hbody, by rw [hcorrupt, isDamaged_iff]⟩

theorem NvArray.found_unique {a : NvArray} {x y : Found} (hx : x ∈ a.found) (hy : y ∈ a.found)
    (h : x.slot = y.slot) : x = y := by
  have hx := NvArray.mem_found_iff.mp hx
  rw [h, NvArray.mem_found_iff.mp hy] at hx
  exact (Option.some_inj.mp hx).symm

theorem NvArray.found_sorted (a : NvArray) : a.found.Pairwise fun x y => x.slot < y.slot := by
  refine List.pairwise_filterMap.mpr (recordSlots_sorted.imp fun hij x hx y hy => ?_)
  rwa [(foundIn_eq_some_iff.mp hx).1, (foundIn_eq_some_iff.mp hy).1]

/-! ### The records kept (R125) -/

/-- R125: no other slot carries a better copy of session `n` than slot `i`. -/
def keptIn (slots : Vector SlotCells 48) (i : RecordSlot) (n : Nat) : Prop :=
  ∀ j c, holdsCopy (cell slots j) n c → j ≠ i →
    ¬ holdsDamaged (cell slots i) ∧ holdsDamaged (cell slots j)
      ∨ (holdsDamaged (cell slots i) ↔ holdsDamaged (cell slots j)) ∧ i < j

theorem Found.beats_iff {x y : Found} : x.beats y = true ↔ x.session = y.session
    ∧ (¬ x.corrupt = true ∧ y.corrupt = true
      ∨ (x.corrupt = true ↔ y.corrupt = true) ∧ x.slot < y.slot) := by
  simp [Found.beats]

/-- Of two copies of one session in different slots, one beats the other. -/
theorem Found.not_beats_iff {x y : Found} (hsession : x.session = y.session)
    (hslot : x.slot ≠ y.slot) : x.beats y = false ↔ y.beats x = true := by
  have horder : ¬ x.slot < y.slot ↔ y.slot < x.slot :=
    not_lt.trans ⟨fun h => lt_of_le_of_ne h hslot.symm, le_of_lt⟩
  rw [← Bool.not_eq_true, Found.beats_iff, Found.beats_iff]
  simp only [hsession, true_and]
  tauto

theorem mem_keepBest_iff {found : List Found} {y : Found} :
    y ∈ keepBest found ↔ y ∈ found ∧ ∀ x ∈ found, x.beats y = false := by
  simp [keepBest]

/-- R125: the scan keeps a record found exactly where no other slot carries a better copy. -/
theorem NvArray.mem_kept_iff {a : NvArray} {y : Found} (hy : y ∈ a.found) :
    y ∈ keepBest a.found ↔ keptIn a.slots y.slot y.session := by
  obtain ⟨-, -, hcorrupt⟩ := NvArray.holdsCopy_of_found hy
  rw [mem_keepBest_iff, and_iff_right hy]
  constructor
  · intro hbest j c hcopy hne
    obtain ⟨x, hx, rfl, hsession, -⟩ := NvArray.found_of_holdsCopy hcopy
    obtain ⟨-, -, hother⟩ := NvArray.holdsCopy_of_found hx
    have hbeats := (Found.not_beats_iff hsession hne).mp (hbest x hx)
    rw [Found.beats_iff, hcorrupt, hother] at hbeats
    exact hbeats.2
  · intro hkept x hx
    obtain ⟨hcopy, -, hother⟩ := NvArray.holdsCopy_of_found hx
    by_cases hslot : x.slot = y.slot
    · rw [NvArray.found_unique hx hy hslot]
      simp [Found.beats]
    by_cases hsession : x.session = y.session
    · rw [hsession] at hcopy
      rw [Found.not_beats_iff hsession hslot, Found.beats_iff, hcorrupt, hother]
      exact ⟨hsession.symm, hkept x.slot x.closeSequence hcopy hslot⟩
    · simp [Found.beats, hsession]

/-! ### The order of the queue (R125) -/

/-- R125: the order of the rebuilt queue: by close sequence, and equal ones by slot. -/
def Found.before (x y : Found) : Prop :=
  x.closeSequence < y.closeSequence ∨ x.closeSequence = y.closeSequence ∧ x.slot < y.slot

theorem insertFound_eq_orderedInsert (x : Found) (l : List Found) :
    insertFound x l = l.orderedInsert (fun x y => x.closeSequence ≤ y.closeSequence) x := by
  induction l with
  | nil => rfl
  | cons y rest ih => simp only [insertFound, List.orderedInsert_cons, ih]

theorem mem_insertFound {x y : Found} {l : List Found} :
    y ∈ insertFound x l ↔ y = x ∨ y ∈ l := by
  rw [insertFound_eq_orderedInsert, List.mem_orderedInsert]

theorem insertFound_ordered {x : Found} {l : List Found} (hslot : ∀ y ∈ l, x.slot < y.slot)
    (h : l.Pairwise Found.before) : (insertFound x l).Pairwise Found.before := by
  induction l with
  | nil => exact List.pairwise_singleton _ x
  | cons y rest ih =>
    obtain ⟨hy, hrest⟩ := List.pairwise_cons.mp h
    unfold insertFound
    split
    · next hle =>
      refine List.pairwise_cons.mpr ⟨fun z hz => ?_, h⟩
      have hyz : y.closeSequence ≤ z.closeSequence := by
        obtain rfl | hz := List.mem_cons.mp hz
        · exact le_rfl
        · obtain hlt | ⟨heq, -⟩ := hy z hz
          · exact hlt.le
          · exact heq.le
      exact (Nat.lt_or_eq_of_le (hle.trans hyz)).imp_right fun heq => ⟨heq, hslot z hz⟩
    · next hgt =>
      refine List.pairwise_cons.mpr ⟨fun z hz => ?_, ih (fun z hz => hslot z (.tail y hz)) hrest⟩
      obtain rfl | hz := mem_insertFound.mp hz
      · exact .inl (Nat.lt_of_not_le hgt)
      · exact hy z hz

theorem mem_sorted_iff {y : Found} {l : List Found} : y ∈ l.foldr insertFound [] ↔ y ∈ l := by
  induction l with
  | nil => rfl
  | cons x rest ih => rw [List.foldr_cons, mem_insertFound, ih, List.mem_cons]

/-- R125: records in the order of their slots come into the queue's order. -/
theorem sorted_ordered {l : List Found} (h : l.Pairwise fun x y => x.slot < y.slot) :
    (l.foldr insertFound []).Pairwise Found.before := by
  induction l with
  | nil => exact List.Pairwise.nil
  | cons x rest ih =>
    obtain ⟨hx, hrest⟩ := List.pairwise_cons.mp h
    exact insertFound_ordered (fun y hy => hx y (mem_sorted_iff.mp hy)) (ih hrest)

/-! ### The close-sequence counter (R125) -/

theorem closeCounterAfter_eq_max (kept : List Found) : closeCounterAfter kept =
    max 1 ((kept.map fun y => y.closeSequence + 1).max?.getD 1) :=
  List.foldl_max

/-- R125: the counter is past every record kept. -/
theorem lt_closeCounterAfter {kept : List Found} {y : Found} (h : y ∈ kept) :
    y.closeSequence < closeCounterAfter kept := by
  have hmem : y.closeSequence + 1 ∈ kept.map fun y => y.closeSequence + 1 := List.mem_map_of_mem h
  rw [closeCounterAfter_eq_max]
  exact (List.le_max?_getD_of_mem hmem).trans (le_max_right _ _)

/-- R125: the counter is one past the last record kept. -/
theorem closeCounterAfter_eq {kept : List Found} (h : kept ≠ []) :
    ∃ y ∈ kept, closeCounterAfter kept = y.closeSequence + 1 := by
  obtain ⟨m, hm⟩ : ∃ m, (kept.map fun y => y.closeSequence + 1).max? = some m :=
    Option.ne_none_iff_exists'.mp (by simpa using h)
  obtain ⟨y, hy, rfl⟩ := List.mem_map.mp (List.max?_mem hm)
  refine ⟨y, hy, ?_⟩
  rw [closeCounterAfter_eq_max, hm]
  exact max_eq_right (Nat.le_add_left 1 _)

end Sys2Proof.Machine
end

section
/-! SUPPORT. The machine after the scan: the slot states, the rebuilt queue, the first reservation and
round 0 (R124 to R127, R177), and the theorem of the start-up (O60). -/

namespace Sys2Proof.Machine
open Sys2Proof

/-! ### The slot states and the rebuilt entries (Table 7.3, R125) -/

theorem scanSlotState_of_kept {kept : List Found} {y : Found} (h : y ∈ kept) (x : SlotCells) :
    scanSlotState kept y.slot x = .held :=
  if_pos (List.any_eq_true.mpr ⟨y, h, decide_eq_true rfl⟩)

theorem scanSlotState_of_none {kept : List Found} {i : RecordSlot} (h : ∀ y ∈ kept, y.slot ≠ i)
    (x : SlotCells) : scanSlotState kept i x = if isBlank x then .free else .marked :=
  if_neg (by simpa using h)

/-- R125: a slot with a copy is HELD where the copy is kept, and MARKED otherwise. -/
theorem NvArray.scanSlotState_of_copy {a : NvArray} {i : RecordSlot} {n c : Nat}
    (h : holdsCopy (cell a.slots i) n c) :
    (keptIn a.slots i n → scanSlotState (keepBest a.found) i (cell a.slots i) = .held
      ∧ ∃ y ∈ keepBest a.found, y.slot = i ∧ y.session = n ∧ y.closeSequence = c)
    ∧ (¬ keptIn a.slots i n →
      scanSlotState (keepBest a.found) i (cell a.slots i) = .marked) := by
  obtain ⟨y, hy, rfl, rfl, rfl⟩ := NvArray.found_of_holdsCopy h
  rw [← NvArray.mem_kept_iff hy]
  refine ⟨fun hkept => ⟨scanSlotState_of_kept hkept _, y, hkept, rfl, rfl, rfl⟩, fun hlost => ?_⟩
  rw [scanSlotState_of_none, isBlank_of_holdsCopy h]
  · rfl
  · intro x hx hslot
    rw [NvArray.found_unique (mem_keepBest_iff.mp hx).1 hy hslot] at hx
    exact hlost hx

/-- Table 7.3: a slot without a copy is FREE where it is blank, and MARKED otherwise. -/
theorem NvArray.scanSlotState_of_no_copy {a : NvArray} {i : RecordSlot}
    (h : ∀ n c, ¬ holdsCopy (cell a.slots i) n c) :
    scanSlotState (keepBest a.found) i (cell a.slots i) =
      if isBlank (cell a.slots i) then .free else .marked := by
  refine scanSlotState_of_none (fun y hy hslot => ?_) _
  obtain ⟨hcopy, -, -⟩ := NvArray.holdsCopy_of_found (mem_keepBest_iff.mp hy).1
  rw [hslot] at hcopy
  exact h _ _ hcopy

/-- R125: the queue entry of record `n` with close sequence `c`, rebuilt from slot `i`. -/
def isRebuilt (x : SlotCells) (e : QueueEntry) (i : RecordSlot) (n c : Nat) : Prop :=
  ∃ body : RecordBody,
    (∀ r, x.body = .record r → body = .built { r with session := n, closeSequence := c })
    ∧ (∀ image, x.body = .damaged image → body = .asRead image)
    ∧ ∃ corrupt : Bool, (corrupt = true ↔ holdsDamaged x)
    ∧ e = { session := n, closeSequence := c, body := body, state := .presentable,
            notDurable := false, corrupt := corrupt, slot := some i, eraseFirst := false }

theorem NvArray.entry_isRebuilt {a : NvArray} {y : Found} (h : y ∈ a.found) :
    isRebuilt (cell a.slots y.slot) y.entry y.slot y.session y.closeSequence := by
  obtain ⟨-, hbody, hcorrupt⟩ := NvArray.holdsCopy_of_found h
  refine ⟨y.body, fun r hr => ?_, fun image himage => ?_, y.corrupt, hcorrupt, rfl⟩
  · rw [hr] at hbody
    exact (Option.some_inj.mp hbody).symm
  · rw [himage] at hbody
    exact (Option.some_inj.mp hbody).symm

/-! ### The machine at the scan's end (R177) -/

/-- The array as the scan reads it. -/
def State.arrayScanned (s : State) (aged : List (RecordSlot × SlotCells)) : NvArray :=
  { s.store.array with slots := agedCells s.store.array.slots aged }

/-- The records that the scan keeps. -/
def State.keptRecords (s : State) (aged : List (RecordSlot × SlotCells)) : List Found :=
  keepBest (s.arrayScanned aged).found

/-- The machine after the scan and before the first exchange of round 0. -/
def State.reopened (s : State) (aged : List (RecordSlot × SlotCells)) : State :=
  let a := s.arrayScanned aged
  let kept := s.keptRecords aged
  let states := mapCells (scanSlotState kept) a.slots
  { s with
    store := { s.store with
      array := a
      corrected := min (s.store.corrected + a.slotSingles) 65535
      slotStates := states
      queue := (kept.foldr insertFound []).map Found.entry
      secondClass := s.store.secondClass ++
        (recordSlots.filter fun i => decide (cell states i = .marked)).map .erase
      firstClass := s.store.firstClass ++
        [.reservation (min (s.account.reservationLimit + 64) 4294967296)] }
    account := { s.account with nextClose := closeCounterAfter kept }
    park := { s.park with
      startStep := none, state := if s.park.startQuiesced then .quiesced else .open }
    site := { s.site with notices := setPending s.site.notices 5 true }
    loop := { s.loop with round := 0, nextRound := some 100 } }

theorem State.endScan_eq (s : State) (aged : List (RecordSlot × SlotCells)) :
    s.endScan aged = (s.reopened aged).beginExchange 0 := by
  unfold State.endScan
  dsimp only
  rw [State.ageSlots_eq, State.ageSlots_array]
  rfl

/-- The machine after SCAN_END. -/
def State.scanEnded (s : State) (aged : List (RecordSlot × SlotCells)) : State :=
  (s.endScan aged).finish

theorem exec_scanEnd {s : State} (hrun : s.resetAsserted = false)
    (hstep : s.park.startStep = some .scan) (aged : List (RecordSlot × SlotCells)) :
    exec (.scanEnd aged) s = .next (s.scanEnded aged) := by
  show execScanEnd aged s = _
  simp only [execScanEnd, hstep, State.quiet_of_running hrun]
  rfl

/-- R112: an idle Store Controller outside STARTING begins the reservation at the head of the first
class. -/
theorem State.startWork_of_reservation {s : State} {l : Nat} {rest : List WorkItem}
    (hpark : s.park.state ≠ .starting) (hidle : s.store.flight = none)
    (hfirst : s.store.firstClass = .reservation l :: rest) :
    s.startWork.store = { s.store with
      firstClass := rest, flight := some { op := .reservation l, left := 1 } } := by
  unfold State.startWork
  rw [if_neg (by simp [hpark, hidle]), hfirst]
  rfl

section
variable (s : State) (aged : List (RecordSlot × SlotCells))

theorem State.scanEnded_blocks : (s.scanEnded aged).account = (s.reopened aged).account
    ∧ (s.scanEnded aged).park = (s.reopened aged).park
    ∧ (s.scanEnded aged).allot = s.allot ∧ (s.scanEnded aged).time = s.time
    ∧ (s.scanEnded aged).loop.round = 0 ∧ (s.scanEnded aged).loop.nextRound = some 100
    ∧ (cell (s.scanEnded aged).site.notices 5).pending = true := by
  obtain ⟨x, tx, driver, hbegin⟩ := (s.reopened aged).beginExchange_eq 0
  rw [State.scanEnded, State.finish_parkNotice, State.finish_account, State.finish_park,
    State.finish_allot, State.finish_time, State.finish_loop, State.endScan_eq, hbegin]
  exact ⟨rfl, rfl, rfl, rfl, rfl, rfl, cell_setPending_self s.site.notices 5 true⟩

theorem State.scanEnded_store {s : State} (hfirst : s.store.firstClass = [])
    (hsecond : s.store.secondClass = []) (hidle : s.store.flight = none) :
    (s.scanEnded aged).store =
      { (s.reopened aged).store with
        firstClass := []
        secondClass := ((List.finRange 48).filter fun i =>
          decide (cell (s.reopened aged).store.slotStates i = .marked)).map .erase
        flight := some { op := .reservation (min (s.account.reservationLimit + 64) 4294967296)
                         left := 1 } } := by
  obtain ⟨x, tx, driver, hbegin⟩ := (s.reopened aged).beginExchange_eq 0
  have hpark : (s.reopened aged).park.state ≠ .starting := by
    show (if s.park.startQuiesced then ParkState.quiesced else .open) ≠ .starting
    split <;> decide
  have hfirst' : (s.reopened aged).store.firstClass =
      [.reservation (min (s.account.reservationLimit + 64) 4294967296)] := by
    show s.store.firstClass ++ _ = _
    rw [hfirst, List.nil_append]
  have hsecond' : (s.reopened aged).store.secondClass = ((List.finRange 48).filter fun i =>
      decide (cell (s.reopened aged).store.slotStates i = .marked)).map .erase := by
    rw [← recordSlots_eq]
    show s.store.secondClass ++ _ = _
    rw [hsecond, List.nil_append]
    rfl
  have hidle' : (s.reopened aged).store.flight = none := hidle
  rw [← hsecond', State.scanEnded, State.endScan_eq, hbegin]
  generalize s.reopened aged = u at hpark hfirst' hidle' ⊢
  exact State.startWork_of_reservation hpark hidle' hfirst'

/-- R132: round 0 polls every present pedestal, and its first exchange is with the lowest. -/
theorem State.scanEnded_exchange {p : Pedestal} (hp : (s.entry p).cfg.present = true)
    (hfirst : ∀ q, q < p → (s.entry q).cfg.present = false) :
    (s.scanEnded aged).loop.exchange = some { pedestal := p, left := 2 } := by
  have hturn : (decide (0 ≤ p.val) && (s.reopened aged).polled p) = true :=
    State.turn_iff.mpr ⟨Nat.zero_le _, hp, .inr rfl⟩
  rw [State.scanEnded, State.finish_loop, State.endScan_eq,
    State.beginExchange_of_first hturn fun q hq => ?_]
  refine Bool.eq_false_iff.mpr fun hq' => ?_
  obtain ⟨-, hpresent, -⟩ := State.turn_iff.mp hq'
  exact Bool.false_ne_true ((hfirst q hq).symm.trans hpresent)

end

theorem mem_rebuiltQueue {kept : List Found} {e : QueueEntry} :
    e ∈ (kept.foldr insertFound []).map Found.entry ↔ ∃ y ∈ kept, y.entry = e := by
  simp only [List.mem_map, mem_sorted_iff]

/-- R125: the rebuilt queue stands in the order of close sequences, equal ones by slot. -/
theorem State.rebuiltQueue_ordered (s : State) (aged : List (RecordSlot × SlotCells)) :
    (((s.keptRecords aged).foldr insertFound []).map Found.entry).Pairwise fun x y =>
      x.closeSequence < y.closeSequence ∨ x.closeSequence = y.closeSequence
        ∧ ∃ i j, x.slot = some i ∧ y.slot = some j ∧ i < j := by
  have hslots : (s.keptRecords aged).Pairwise fun x y => x.slot < y.slot :=
    (s.arrayScanned aged).found_sorted.sublist List.filter_sublist
  refine List.pairwise_map.mpr ((sorted_ordered hslots).imp fun {x y} h => ?_)
  exact h.imp_right fun ⟨heq, hlt⟩ => ⟨heq, x.slot, y.slot, rfl, rfl, hlt⟩

section
variable {s : State} (aged : List (RecordSlot × SlotCells)) (hfirst : s.store.firstClass = [])
  (hsecond : s.store.secondClass = []) (hidle : s.store.flight = none)
include hfirst hsecond hidle

theorem State.scanEnded_array : (s.scanEnded aged).store.array = s.arrayScanned aged := by
  rw [State.scanEnded_store aged hfirst hsecond hidle]
  rfl

theorem State.scanEnded_slotState (i : RecordSlot) : (s.scanEnded aged).slotState i =
    scanSlotState (s.keptRecords aged) i (cell (s.arrayScanned aged).slots i) := by
  rw [State.slotState, State.scanEnded_store aged hfirst hsecond hidle]
  exact cell_mapCells _ _ i

theorem State.mem_scanEnded_queue {e : QueueEntry} :
    e ∈ (s.scanEnded aged).store.queue ↔ ∃ y ∈ s.keptRecords aged, y.entry = e := by
  rw [State.scanEnded_store aged hfirst hsecond hidle]
  exact mem_rebuiltQueue

/-- R125: a kept copy is HELD with its entry in the queue, and any other copy MARKED. -/
theorem State.scanEnded_copies (i : RecordSlot) (n c : Nat)
    (h : holdsCopy ((s.scanEnded aged).slotCells i) n c) :
    (keptIn (s.scanEnded aged).store.array.slots i n → (s.scanEnded aged).slotState i = .held
      ∧ ∃ e ∈ (s.scanEnded aged).store.queue, isRebuilt ((s.scanEnded aged).slotCells i) e i n c)
    ∧ (¬ keptIn (s.scanEnded aged).store.array.slots i n →
      (s.scanEnded aged).slotState i = .marked) := by
  unfold State.slotCells at h ⊢
  rw [State.scanEnded_array aged hfirst hsecond hidle] at h ⊢
  rw [State.scanEnded_slotState aged hfirst hsecond hidle]
  obtain ⟨hheld, hmarked⟩ := NvArray.scanSlotState_of_copy h
  refine ⟨fun hkept => ?_, hmarked⟩
  obtain ⟨hslot, y, hy, rfl, rfl, rfl⟩ := hheld hkept
  exact ⟨hslot, y.entry, (State.mem_scanEnded_queue aged hfirst hsecond hidle).mpr ⟨y, hy, rfl⟩,
    NvArray.entry_isRebuilt (mem_keepBest_iff.mp hy).1⟩

/-- Table 7.3: of the slots without a copy the blank ones are FREE, the others MARKED. -/
theorem State.scanEnded_no_copy (i : RecordSlot)
    (h : ∀ n c, ¬ holdsCopy ((s.scanEnded aged).slotCells i) n c) :
    (s.scanEnded aged).slotState i =
      if isBlank ((s.scanEnded aged).slotCells i) then .free else .marked := by
  unfold State.slotCells at h ⊢
  rw [State.scanEnded_array aged hfirst hsecond hidle] at h ⊢
  rw [State.scanEnded_slotState aged hfirst hsecond hidle]
  exact NvArray.scanSlotState_of_no_copy h

/-- R125: the queue holds nothing but the kept copies. -/
theorem State.scanEnded_queue (e : QueueEntry) (h : e ∈ (s.scanEnded aged).store.queue) :
    ∃ i n c, holdsCopy ((s.scanEnded aged).slotCells i) n c
      ∧ keptIn (s.scanEnded aged).store.array.slots i n
      ∧ isRebuilt ((s.scanEnded aged).slotCells i) e i n c := by
  obtain ⟨y, hy, rfl⟩ := (State.mem_scanEnded_queue aged hfirst hsecond hidle).mp h
  obtain ⟨hfound, -⟩ := mem_keepBest_iff.mp hy
  unfold State.slotCells
  rw [State.scanEnded_array aged hfirst hsecond hidle]
  exact ⟨y.slot, y.session, y.closeSequence, (NvArray.holdsCopy_of_found hfound).1,
    (NvArray.mem_kept_iff hfound).mp hy, NvArray.entry_isRebuilt hfound⟩

/-- R125: the close-sequence counter is one past the largest close sequence rebuilt, or 1. -/
theorem State.scanEnded_nextClose :
    (∀ e ∈ (s.scanEnded aged).store.queue, e.closeSequence < (s.scanEnded aged).account.nextClose)
    ∧ ((s.scanEnded aged).store.queue ≠ [] → ∃ e ∈ (s.scanEnded aged).store.queue,
      (s.scanEnded aged).account.nextClose = e.closeSequence + 1)
    ∧ ((s.scanEnded aged).store.queue = [] → (s.scanEnded aged).account.nextClose = 1) := by
  have hmem {e : QueueEntry} := State.mem_scanEnded_queue (e := e) aged hfirst hsecond hidle
  have hclose : (s.scanEnded aged).account.nextClose = closeCounterAfter (s.keptRecords aged) :=
    congrArg Account.nextClose (s.scanEnded_blocks aged).1
  rw [hclose]
  refine ⟨fun e he => ?_, fun hne => ?_, fun hempty => ?_⟩
  · obtain ⟨y, hy, rfl⟩ := hmem.mp he
    exact lt_closeCounterAfter hy
  · obtain ⟨e, he⟩ := List.exists_mem_of_ne_nil _ hne
    obtain ⟨y, hy, -⟩ := hmem.mp he
    obtain ⟨z, hz, hlast⟩ := closeCounterAfter_eq (List.ne_nil_of_mem hy)
    exact ⟨z.entry, hmem.mpr ⟨z, hz, rfl⟩, hlast⟩
  · have hnone : s.keptRecords aged = [] := List.eq_nil_iff_forall_not_mem.mpr fun y hy => by
      simpa [hempty] using hmem.mpr ⟨y, hy, rfl⟩
    rw [hnone]
    rfl

end

/-! ### The theorem -/

/-- Settles O60: the restore is read block by block, its held codes feeder by feeder; the scan through
the array as it was read, the records it keeps, and the first item of the Store Controller. -/
theorem startUpRestoresAndScans : Obligations.StartUpRestoresAndScans := by
  unfold Obligations.StartUpRestoresAndScans
  intro s hrun
  refine ⟨fun r hstep => ?_, fun aged hstep hfirst hsecond hidle hnodup => ?_⟩
  · refine ⟨_, exec_restoreEnd hrun hstep r, s.settingsLoaded r, ?_⟩
    obtain ⟨haccount, hpark, htime, hloop, hmeas, harray, hcorrected⟩ := s.restoreEnded_blocks r
    obtain ⟨hceiling, hparameters⟩ := s.restoreEnded_site r
    refine ⟨?_, s.restoreEnded_cfg r, fun f => ?_, fun f => ?_, s.restoreEnded_derateChange r,
      hceiling, hparameters, congrArg Account.rows haccount, congrArg Account.bindings haccount,
      s.restoreEnded_payLevel r, s.restoreEnded_siteLevel r, hpark, by rw [haccount]; rfl, ?_, ?_,
      harray, by rw [haccount]; rfl, htime, hloop, hmeas⟩
    · obtain hgood | ⟨hlost, hnone, hdefault⟩ := areaValue_cases (s.settingsRead r) Settings.default
      · exact .inl hgood
      · exact .inr ⟨hnone, hdefault, s.restoreEnded_lost r (.inl hlost)⟩
    · rw [s.restoreEnded_feeder, FeederEntry.ceilingNow, FeederEntry.evaluateLatest_cfg,
        State.loaded_feeder]
      exact ⟨rfl, rfl⟩
    · have hfeeder := s.restoreEnded_feeder r f
      dsimp only at hfeeder
      rw [State.loaded_feeder] at hfeeder
      refine ⟨fun hnone => ?_, fun code hcode =>
        ⟨fun hoff => ?_, fun hon hout => ?_, fun hon hin => ?_⟩⟩
      · rw [hfeeder, hnone]
        rfl
      all_goals rw [hfeeder, hcode, FeederEntry.evaluateLatest]
      · rw [FeederEntry.evaluate_of_disabled hoff]
        rfl
      · rw [FeederEntry.evaluate_of_fault hon hout]
      · rw [FeederEntry.evaluate_of_inRange hon hin]
        rfl
    · rw [haccount]
      obtain hgood | ⟨hlost, hnone, hdefault⟩ := areaValue_cases (s.counterRead r) 1
      · exact .inl hgood
      · exact .inr ⟨hnone, hdefault, s.restoreEnded_lost r (.inr hlost)⟩
    · rw [hcorrected, Nat.add_assoc]
      rfl
  · obtain ⟨haccount, hpark, hallot, htime, hround, hnext, hnotice⟩ := s.scanEnded_blocks aged
    obtain ⟨hpast, hlast, hnone⟩ := State.scanEnded_nextClose aged hfirst hsecond hidle
    have hstore := State.scanEnded_store aged hfirst hsecond hidle
    refine ⟨_, exec_scanEnd hrun hstep aged, fun i c hi => ?_, fun i hi => ?_, ?_, ?_, ?_,
      ⟨State.scanEnded_copies aged hfirst hsecond hidle, fun i hi => ?_,
        State.scanEnded_queue aged hfirst hsecond hidle⟩,
      ?_, hpast, hlast, hnone, ?_, ?_, ?_, hpark, hnotice, hround, hnext,
      fun p => s.scanEnded_exchange aged, ?_, hallot, htime⟩
    · rw [State.slotCells, hstore]
      exact agedCells_of_mem hnodup hi _
    · rw [State.slotCells, hstore]
      exact agedCells_of_not_mem hi _
    · rw [hstore]
      rfl
    · rw [hstore]
      rfl
    · rw [hstore]
      rfl
    · rw [State.scanEnded_no_copy aged hfirst hsecond hidle i hi, ← isBlank_iff]
      exact ⟨fun hblank => if_pos hblank, fun hfilled => if_neg hfilled⟩
    · rw [hstore]
      exact s.rebuiltQueue_ordered aged
    · simp only [State.slotState, hstore]
    · rw [hstore]
    · rw [hstore]
    · rw [haccount]
      rfl

end Sys2Proof.Machine
end

section
/-! SUPPORT. The accounts of a session (chapters 5 and 6): the moves that change them, and that every
session after a step was opened in it or has its accounts by such a move. -/

namespace Sys2Proof.Machine
open Sys2Proof

/-! ### The moves of the accounts -/

/-- The fields of a session's record that metering and money read and write (R80 to R88, R94 to R106). -/
structure Accounts where
  meterStart  : Option Nat
  lastReading : Nat
  billed      : Nat
  unbilled    : Nat
  earlier     : List Segment
  current     : Segment
  overstayFee : Nat
  flatFee     : Nat

/-- The accounts of a session. -/
def Session.accounts (x : Session) : Accounts :=
  { meterStart := x.meterStart, lastReading := x.lastReading, billed := x.billed,
    unbilled := x.unbilled, earlier := x.earlier, current := x.current,
    overstayFee := x.overstayFee, flatFee := x.flatFee }

/-- R85, R86, R102: the session after `energy` of a reading's delta is billed and the rest is not,
but for its state, its stamp and its dispute flag. -/
def Session.takeEnergy (x : Session) (reading delta energy : Nat) : Session :=
  { x with
    lastReading := reading
    billed := x.billed + energy
    unbilled := (x.unbilled + (delta - energy)) % Config.unbilledModulus
    current := billSegment x.current energy
    flatFee := if x.billed = 0 ∧ 0 < energy then x.firstSegment.snapshot.flatFee else x.flatFee }

/-- R84: a reading bills its delta up to the plausibility bound. -/
theorem Session.billReading_accounts (x : Session) (peak reading : Nat) (stamp : Word32) :
    (x.billReading peak reading stamp).accounts =
      (x.takeEnergy reading (meterDelta reading x.lastReading) (min (meterDelta reading x.lastReading)
        (plausibilityBound peak (stampDifference stamp x.lastStamp)))).accounts := by
  simp only [Session.accounts, Session.billReading, Session.takeEnergy, Bool.and_eq_true,
    decide_eq_true_eq]

/-- How a session's accounts change: not at all, by a reading (R79, R86), an overstay minute (R105), a
bind (R95), or the authorisation, which takes meter start (R11). No session returns to AUTHORISING. -/
inductive AccountMove (x : Session) : Session → Prop
  | keeps (y : Session) : y.accounts = x.accounts →
      (y.state = .authorising → x.state = .authorising) → AccountMove x y
  | read (reading : Nat) (stamp : Word32) : x.state = .authorising →
      AccountMove x { x with lastReading := reading, lastStamp := stamp }
  | bill (peak reading : Nat) (stamp : Word32) : x.state ≠ .authorising →
      AccountMove x (x.billReading peak reading stamp)
  | minute : x.state = .parked → AccountMove x x.endMinute
  | bind (row : RowIndex) (t : Tariff) (now : ClockStamp) : AccountMove x (x.bind row t now)
  | authorise (hold : Nat) (ref : Word32) (now : ClockStamp) (lost : Bool) : x.state = .authorising →
      AccountMove x (x.authorise hold ref now lost)

theorem AccountMove.same (x : Session) : AccountMove x x := .keeps x rfl id

theorem AccountMove.advance (x : Session) (n : Nat) : AccountMove x (x.advance n) :=
  .keeps _ rfl id

/-- R143: a link change acts on the link-loss timer alone. -/
theorem Session.linkChanged_accounts (x : Session) (l : LinkState) :
    (x.linkChanged l).accounts = x.accounts ∧ (x.linkChanged l).state = x.state := by
  unfold Session.linkChanged
  repeat' split
  all_goals exact ⟨rfl, rfl⟩

theorem SessionMove.accountMove {x y : Session} (h : SessionMove x y) : AccountMove x y := by
  have hstate := h.authorising_iff.mp
  cases h with
  | read reading stamp hauth => exact .read reading stamp hauth
  | bill peak reading stamp hauth => exact .bill peak reading stamp hauth
  | minute hparked => exact .minute hparked
  | bind row t now => exact .bind row t now
  | link l => exact .keeps _ (x.linkChanged_accounts l).1 hstate
  | lateStop | revive | ignoreStop => exact .keeps _ rfl hstate

/-! ### The sessions after a move -/

/-- A session that stands after a move of the tables was opened by it, or had its record before. -/
theorem TableMove.session_origin {s t : State} (h : TableMove s t) {q : Pedestal} {y : Session}
    (hy : t.session q = some y) : (∃ x, s.session q = some x ∧ AccountMove x y)
      ∨ ∃ reading stamp, y = s.newSession q reading stamp := by
  have hkept (hsame : t.session q = s.session q) : ∃ x, s.session q = some x ∧ AccountMove x y :=
    ⟨y, hsame ▸ hy, .same y⟩
  have hchanged {p : Pedestal} {x z : Session} (hx : s.session p = some x)
      (hsession : t.session q = if q = p then some z else s.session q) (hmove : AccountMove x z) :
      ∃ x, s.session q = some x ∧ AccountMove x y := by
    by_cases hq : q = p
    · rw [hsession, if_pos hq, Option.some.injEq] at hy
      exact ⟨x, hq ▸ hx, hy ▸ hmove⟩
    · exact hkept (hsession.trans (if_neg hq))
  have hended {p : Pedestal} (hsession : t.session q = if q = p then none else s.session q) :
      ∃ x, s.session q = some x ∧ AccountMove x y := by
    by_cases hq : q = p
    · rw [hsession, if_pos hq] at hy
      cases hy
    · exact hkept (hsession.trans (if_neg hq))
  cases h with
  | advance n =>
    rw [State.advance_session, Option.map_eq_some_iff] at hy
    obtain ⟨x, hx, rfl⟩ := hy
    exact .inl ⟨x, hx, .advance x n⟩
  | session p x z hx hxz => exact .inl (hchanged hx (s.session_putSession p q z) hxz.accountMove)
  | flags p refused unavailable _ =>
    refine .inl (hkept ?_)
    rw [State.session_putSlot]
    split
    · next hq => rw [hq, State.session]
    · rfl
  | opens p reading stamp _ _ =>
    by_cases hq : q = p
    · rw [State.openSession_session, if_pos hq, Option.some.injEq] at hy
      exact .inr ⟨reading, stamp, hq ▸ hy.symm⟩
    · exact .inl (hkept ((s.openSession_session p q reading stamp).trans (if_neg hq)))
  | voids p refused x hx _ => exact .inl (hended (State.void_session hx refused q))
  | closes p reason refused x hx _ => exact .inl (hended (State.close_session hx reason refused q))
  | authorises p x hold ref hx hauth =>
    exact .inl (hchanged hx (s.authoriseSession_session p q x hold ref) (.authorise _ _ _ _ hauth))
  | stops p reason x hx _ =>
    exact .inl (hchanged hx (State.enterStopping_session hx reason q) (.keeps _ rfl nofun))
  | parks p by_ x hx _ =>
    exact .inl (hchanged hx (State.enterParked_session hx by_ q) (.keeps _ rfl nofun))
  | resetsPeak | tracks | ramps => exact .inl (hkept rfl)

/-! ### Laws of single sessions -/

/-- Every open session meets `L`. -/
def State.everySession (L : Session → Prop) (s : State) : Prop := ∀ p x, s.session p = some x → L x

theorem State.everySession_congr {L : Session → Prop} {s t : State}
    (h : t.account.slots = s.account.slots) (hs : s.everySession L) : t.everySession L :=
  fun p x hx => hs p x ((State.session_congr h p).symm.trans hx)

/-- A law of single sessions that a new session meets and every move of the accounts keeps is kept by
every step: no configuration, recompute or end of an event writes the session table. -/
theorem step_keeps_everySession {L : Session → Prop}
    (hnew : ∀ (s : State) (p : Pedestal) (reading : Nat) (stamp : Word32),
      L (s.newSession p reading stamp))
    (hmove : ∀ x y, L x → AccountMove x y → L y) {s t : State} (hs : s.everySession L)
    (h : step s = .next t) : t.everySession L := by
  have htable (s t : State) (hs : s.everySession L) (h : TableMove s t) : t.everySession L := by
    intro q y hy
    obtain ⟨x, hx, hxy⟩ | ⟨reading, stamp, rfl⟩ := h.session_origin hy
    · exact hmove x y (hs q x hx) hxy
    · exact hnew s q reading stamp
  refine step_keeps (P := State.everySession L) (fun _ _ h => h)
    (fun s hs => htable s _ hs (.advance s 1))
    (fun s t hs heffect => heffect.keeps (P := State.everySession L) ?_ ?_ ?_ ?_ ?_ ?_ hs) hs h
  · exact Move.keeps_of_tables
      (fun _ _ htables h => State.everySession_congr (congrArg Tables.slots htables) h) htable
  · exact fun u hu => State.everySession_congr (s := u) rfl (State.everySession_congr hu.slots.1 hs)
  · exact fun s hs => State.everySession_congr (s := s) rfl hs
  · exact fun s hs => State.everySession_congr (congrArg Account.slots s.finish_account) hs
  · exact fun cut => hs
  · exact fun a addr q p x hx => by
      rw [State.session_afterReset] at hx
      cases hx

end Sys2Proof.Machine
end

section
/-! SUPPORT. The step laws of a session's metering (O10) and of its money (O11). -/

namespace Sys2Proof.Machine
open Sys2Proof

/-! ### Metering (R80 to R88) -/

/-- R82: the delta leads from the last reading to the new one. -/
theorem add_meterDelta_mod (reading last : Nat) :
    (last + meterDelta reading last) % Config.meterModulus = reading % Config.meterModulus := by
  unfold meterDelta Config.meterModulus
  omega

/-- R85, R88: billed and unbilled energy take the whole delta between them, and unbilled energy is held
modulo a multiple of the meter's modulus. -/
theorem billed_unbilled_mod {start billed unbilled last reading energy delta : Nat}
    (hdelta : (last + delta) % Config.meterModulus = reading % Config.meterModulus)
    (henergy : energy ≤ delta)
    (h : (start + billed + unbilled) % Config.meterModulus = last % Config.meterModulus) :
    (start + (billed + energy) + (unbilled + (delta - energy)) % Config.unbilledModulus)
      % Config.meterModulus = reading % Config.meterModulus := by
  unfold Config.meterModulus Config.unbilledModulus at *
  omega

theorem Session.metered.congr {x y : Session} (hx : x.metered) (h : y.accounts = x.accounts)
    (hstate : y.state = .authorising → x.state = .authorising) : y.metered := by
  have hstart : y.meterStart = x.meterStart := congrArg Accounts.meterStart h
  have hlast : y.lastReading = x.lastReading := congrArg Accounts.lastReading h
  have hbilled : y.billed = x.billed := congrArg Accounts.billed h
  have hunbilled : y.unbilled = x.unbilled := congrArg Accounts.unbilled h
  unfold Session.metered at hx ⊢
  rw [hstart, hlast, hbilled, hunbilled]
  exact ⟨fun hauth => hx.1 (hstate hauth), hx.2⟩

/-- R85: a delta that leads to the new reading keeps the metering sound, however much of it is billed. -/
theorem Session.metered.takeEnergy {x : Session} (hx : x.metered) (hauth : x.state ≠ .authorising)
    {reading delta energy : Nat}
    (hdelta : (x.lastReading + delta) % Config.meterModulus = reading % Config.meterModulus)
    (henergy : energy ≤ delta) : (x.takeEnergy reading delta energy).metered :=
  ⟨fun h => absurd h hauth, fun m hm => billed_unbilled_mod hdelta henergy (hx.2 m hm)⟩

/-- R95: a bind leaves the readings and the energies alone. -/
theorem Session.bind_meter (x : Session) (row : RowIndex) (t : Tariff) (now : ClockStamp) :
    (x.bind row t now).meterStart = x.meterStart ∧ (x.bind row t now).lastReading = x.lastReading
      ∧ (x.bind row t now).billed = x.billed ∧ (x.bind row t now).unbilled = x.unbilled := by
  unfold Session.bind Session.rebind
  repeat' split
  all_goals exact ⟨rfl, rfl, rfl, rfl⟩

/-- R105, R106: an overstay minute charges the overstay fee at most. -/
theorem Session.endMinute_meter (x : Session) :
    x.endMinute.meterStart = x.meterStart ∧ x.endMinute.lastReading = x.lastReading
      ∧ x.endMinute.billed = x.billed ∧ x.endMinute.unbilled = x.unbilled
      ∧ x.endMinute.state = x.state := by
  unfold Session.endMinute
  dsimp only
  split <;> exact ⟨rfl, rfl, rfl, rfl, rfl⟩

theorem AccountMove.metered {x y : Session} (hx : x.metered) (h : AccountMove x y) : y.metered := by
  obtain ⟨hauthorising, hcongruent⟩ := id hx
  cases h with
  | keeps _ haccounts hstate => exact Session.metered.congr hx haccounts hstate
  | read reading stamp hauth =>
    refine ⟨hauthorising, fun m hm => ?_⟩
    rw [(hauthorising hauth).1] at hm
    cases hm
  | bill peak reading stamp hauth =>
    have hstate := (SessionMove.bill peak reading stamp hauth).authorising_iff
    exact (Session.metered.takeEnergy hx hauth (add_meterDelta_mod reading x.lastReading)
      (min_le_left _ _)).congr (x.billReading_accounts peak reading stamp) hstate.mp
  | minute _ =>
    obtain ⟨hstart, hlast, hbilled, hunbilled, hstate⟩ := x.endMinute_meter
    unfold Session.metered
    rw [hstart, hlast, hbilled, hunbilled, hstate]
    exact hx
  | bind row t now =>
    obtain ⟨hstart, hlast, hbilled, hunbilled⟩ := x.bind_meter row t now
    unfold Session.metered
    rw [hstart, hlast, hbilled, hunbilled, Session.bind_state]
    exact hx
  | authorise hold ref now lost hauth =>
    obtain ⟨-, hbilled, hunbilled⟩ := hauthorising hauth
    refine ⟨nofun, fun m hm => ?_⟩
    cases hm
    show (x.lastReading + x.billed + x.unbilled) % _ = _
    rw [hbilled, hunbilled]
    rfl

theorem State.newSession_metered (s : State) (p : Pedestal) (reading : Nat) (stamp : Word32) :
    (s.newSession p reading stamp).metered := ⟨fun _ => ⟨rfl, rfl, rfl⟩, nofun⟩

/-- Settles O10: a reading moves its whole delta into billed and unbilled energy, authorisation takes
meter start with both at 0, and nothing else touches the three. -/
theorem stepKeepsMeterLaw : Obligations.StepKeepsMeterLaw := by
  unfold Obligations.StepKeepsMeterLaw
  intro s t hs hstep
  exact step_keeps_everySession State.newSession_metered (fun _ _ hx hxy => hxy.metered hx) hs hstep

/-! ### Money (R94 to R106) -/

theorem Session.priced.congr {x y : Session} (hx : x.priced) (h : y.accounts = x.accounts)
    (hstate : y.state = .authorising → x.state = .authorising) : y.priced := by
  have hbilled : y.billed = x.billed := congrArg Accounts.billed h
  have hearlier : y.earlier = x.earlier := congrArg Accounts.earlier h
  have hcurrent : y.current = x.current := congrArg Accounts.current h
  have hfee : y.overstayFee = x.overstayFee := congrArg Accounts.overstayFee h
  have hflat : y.flatFee = x.flatFee := congrArg Accounts.flatFee h
  obtain ⟨hlength, hraw, hsum, hflat', hcap, hauth⟩ := hx
  unfold Session.priced Session.largestCap Session.segments Session.firstSegment
  rw [hbilled, hearlier, hcurrent, hfee, hflat]
  exact ⟨hlength, hraw, hsum, hflat', hcap, fun hy => hauth (hstate hy)⟩

theorem Session.takeEnergy_segments (x : Session) (reading delta energy : Nat) :
    (x.takeEnergy reading delta energy).segments = x.earlier ++ [billSegment x.current energy] := rfl

/-- R102: billed energy leaves the snapshot of the first segment alone. -/
theorem Session.takeEnergy_firstSegment (x : Session) (reading delta energy : Nat) :
    (x.takeEnergy reading delta energy).firstSegment.snapshot = x.firstSegment.snapshot := by
  unfold Session.firstSegment Session.takeEnergy
  dsimp only
  cases x.earlier <;> rfl

/-- R97: a new segment leaves the first segment alone. -/
theorem Session.firstSegment_of_new (x : Session) (g : Segment) :
    ({ x with earlier := x.segments, current := g } : Session).firstSegment = x.firstSegment := by
  unfold Session.firstSegment Session.segments
  dsimp only
  cases x.earlier <;> rfl

/-- R106: billed energy leaves the largest cap alone. -/
theorem Session.takeEnergy_largestCap (x : Session) (reading delta energy : Nat) :
    (x.takeEnergy reading delta energy).largestCap = x.largestCap := by
  rw [Session.largestCap, x.takeEnergy_segments, List.map_append, Session.largestCap,
    Session.segments, List.map_append]
  rfl

/-- R97, R106: a new segment does not lower the largest cap. -/
theorem Session.largestCap_of_new (x : Session) (g : Segment) :
    ({ x with earlier := x.segments, current := g } : Session).largestCap
      = max x.largestCap g.snapshot.cap := by
  simp [Session.largestCap, Session.segments]

/-- R85, R100, R102: billed energy keeps the money sound. -/
theorem Session.priced.takeEnergy {x : Session} (hx : x.priced) (hauth : x.state ≠ .authorising)
    (reading delta energy : Nat) : (x.takeEnergy reading delta energy).priced := by
  obtain ⟨hlength, hraw, hsum, hflat, hcap, -⟩ := hx
  refine ⟨?_, fun g hg => ?_, ?_, ?_, ?_, fun h => absurd h hauth⟩
  · rw [x.takeEnergy_segments, List.length_append]
    rwa [Session.segments, List.length_append] at hlength
  · rw [x.takeEnergy_segments, List.mem_append, List.mem_singleton] at hg
    obtain hg | rfl := hg
    · exact hraw g (List.mem_append_left _ hg)
    · have hcurrent : x.current.raw = x.current.billed * x.current.snapshot.rate :=
        hraw x.current (List.mem_append_right _ (List.mem_singleton.mpr rfl))
      simp only [billSegment, hcurrent, Nat.add_mul]
  · rw [x.takeEnergy_segments]
    simpa [Session.segments, Session.takeEnergy, billSegment, ← Nat.add_assoc] using hsum
  · rw [Session.takeEnergy_firstSegment]
    simp only [Session.takeEnergy, hflat]
    by_cases hzero : x.billed = 0
    · simp [hzero, Nat.pos_iff_ne_zero, ite_not]
    · simp [hzero]
  · rw [Session.takeEnergy_largestCap]
    exact hcap

/-- R106: an overstay minute charges at most what the largest cap leaves. -/
theorem Session.priced.endMinute {x : Session} (hx : x.priced) (hparked : x.state = .parked) :
    x.endMinute.priced := by
  obtain ⟨hlength, hraw, hsum, hflat, hcap, -⟩ := hx
  have hincrement : x.overstayIncrement ≤ x.largestCap - x.overstayFee :=
    (min_le_right _ _).trans (min_le_left _ _)
  have hfee : x.overstayFee + x.overstayIncrement ≤ x.largestCap := by omega
  have hstate (P : Prop) (h : x.state = .authorising) : P := by
    rw [hparked] at h
    cases h
  unfold Session.endMinute
  dsimp only
  split
  · exact ⟨hlength, hraw, hsum, hflat, hfee, hstate _⟩
  · exact ⟨hlength, hraw, hsum, hflat, hcap, hstate _⟩

/-- R95 to R98: a bind keeps the money sound: a fresh segment carries no energy and no accrual. -/
theorem Session.priced.bind {x : Session} (hx : x.priced) (row : RowIndex) (t : Tariff)
    (now : ClockStamp) : (x.bind row t now).priced := by
  obtain ⟨hlength, hraw, hsum, hflat, hcap, hauth⟩ := id hx
  unfold Session.bind
  split
  · next hstate =>
    obtain ⟨hbilled, hfee⟩ := hauth hstate
    rw [if_pos hbilled] at hflat
    simp [Session.priced, Session.segments, freshSegment, hbilled, hfee, hflat]
  · next hstate =>
    unfold Session.rebind
    split
    · exact hx
    · split
      · next hroom =>
        refine ⟨?_, fun g hg => ?_, ?_, ?_, ?_, hauth⟩
        · simpa [Session.segments, Nat.succ_le_iff] using hroom
        · rw [Session.segments, List.mem_append, List.mem_singleton] at hg
          obtain hg | rfl := hg
          · exact hraw g hg
          · simp [freshSegment]
        · simpa [Session.segments, freshSegment] using hsum
        · rw [Session.firstSegment_of_new]
          exact hflat
        · rw [Session.largestCap_of_new]
          exact hcap.trans (le_max_left _ _)
      · exact hx

theorem AccountMove.priced {x y : Session} (hx : x.priced) (h : AccountMove x y) : y.priced := by
  cases h with
  | keeps _ haccounts hstate => exact hx.congr haccounts hstate
  | read reading stamp _ => exact hx
  | bill peak reading stamp hauth =>
    have hstate := (SessionMove.bill peak reading stamp hauth).authorising_iff
    exact (hx.takeEnergy hauth _ _ _).congr (x.billReading_accounts peak reading stamp) hstate.mp
  | minute hparked => exact hx.endMinute hparked
  | bind row t now => exact hx.bind row t now
  | authorise hold ref now lost _ =>
    obtain ⟨hlength, hraw, hsum, hflat, hcap, -⟩ := hx
    exact ⟨hlength, hraw, hsum, hflat, hcap, nofun⟩

theorem State.newSession_priced (s : State) (p : Pedestal) (reading : Nat) (stamp : Word32) :
    (s.newSession p reading stamp).priced := by
  simp [Session.priced, Session.segments, State.newSession, freshSegment]

/-- Settles O11: a reading bills the current segment at its rate, a minute charges within the largest
cap, and a bind adds a segment without energy. -/
theorem stepKeepsMoneyLaw : Obligations.StepKeepsMoneyLaw := by
  unfold Obligations.StepKeepsMoneyLaw
  intro s t hs hstep
  exact step_keeps_everySession State.newSession_priced (fun _ _ hx hxy => hxy.priced hx) hs hstep

end Sys2Proof.Machine
end

section
/-! SUPPORT. Step 1 of a report (R3): a reading by the slot's state, and the theorem of the readings
(O50). -/

namespace Sys2Proof.Machine
open Sys2Proof

/-! ### A reading at each kind of slot (R79) -/

theorem State.takeReading_of_free {s : State} {p : Pedestal} (h : s.session p = none) (reading : Nat)
    (stamp : Word32) : s.takeReading p reading stamp = s.putEntry p (s.entry p).resetPeak := by
  simp only [State.takeReading, h]

theorem State.takeReading_of_authorising {s : State} {p : Pedestal} {x : Session}
    (hx : s.session p = some x) (hstate : x.state = .authorising) (reading : Nat) (stamp : Word32) :
    s.takeReading p reading stamp =
      (s.putSession p { x with lastReading := reading, lastStamp := stamp }).putEntry p
        (s.entry p).resetPeak := by
  simp only [State.takeReading, hx, hstate, State.entry_putSession]

theorem State.takeReading_of_authorised {s : State} {p : Pedestal} {x : Session}
    (hx : s.session p = some x) (hstate : x.state ≠ .authorising) (reading : Nat) (stamp : Word32) :
    s.takeReading p reading stamp = (s.billSession p x reading stamp).putEntry p
      ((s.billSession p x reading stamp).entry p).resetPeak := by
  unfold State.takeReading
  rw [hx]
  dsimp only
  split
  · next h => exact absurd h hstate
  · rfl

/-! ### The billed session in the table (R85) -/

/-- R85: the state with a billed session and its dispute noticed, before the threshold is tested. -/
def State.billed (s : State) (p : Pedestal) (y : Session) (disputed : Bool) : State :=
  if disputed then (s.putSession p y).raiseSite .meterDispute else s.putSession p y

/-- R86, step 4: the state after the test of the threshold. -/
def State.tested (s : State) (p : Pedestal) (y : Session) (disputed : Bool) : State :=
  if SessionState.counts y.state && y.atThreshold s.allot.parameters.holdReserve then
    (s.billed p y disputed).enterStopping p .hold
  else s.billed p y disputed

theorem State.billSession_eq (s : State) (p : Pedestal) (x : Session) (reading : Nat)
    (stamp : Word32) : s.billSession p x reading stamp =
      s.tested p (x.billReading (s.entry p).peak reading stamp)
        (x.disputed (s.entry p).peak reading stamp) := rfl

section
variable (s : State) (p : Pedestal) (y : Session) (disputed : Bool)

theorem State.billed_session : (s.billed p y disputed).session p = some y := by
  unfold State.billed
  split <;> simp

theorem State.billed_entry (q : Pedestal) : (s.billed p y disputed).entry q = s.entry q := by
  unfold State.billed
  split <;> simp

theorem State.billed_pay : (s.billed p y disputed).pay = s.pay := by
  unfold State.billed
  split <;> simp

theorem State.tested_site : (s.tested p y disputed).site = (s.billed p y disputed).site := by
  unfold State.tested
  split
  · rw [State.enterStopping_site]
  · rfl

/-- R85, R174: unbilled energy raises METER_DISPUTE. -/
theorem State.tested_disputed :
    (cell (s.tested p y true).site.notices SiteCause.meterDispute.idx).pending = true := by
  rw [State.tested_site]
  exact cell_setPending_self _ _ _

theorem State.tested_undisputed : (s.tested p y false).site = s.site := by
  rw [State.tested_site]
  rfl

/-- R56: the threshold's test leaves the grant alone. -/
theorem State.tested_grant : ((s.tested p y disputed).entry p).grant = (s.entry p).grant := by
  unfold State.tested
  split
  · rw [State.enterStopping_entry (s.billed_session p y disputed), if_pos rfl,
      AllotEntry.endTracking_grant, State.billed_entry]
  · rw [State.billed_entry]

end

/-- R17, R86: a session that counts for power and stands at the threshold is STOPPING by HOLD. -/
theorem State.tested_stops {s : State} {p : Pedestal} {y : Session} (disputed : Bool)
    (h : (SessionState.counts y.state && y.atThreshold s.allot.parameters.holdReserve) = true) :
    (s.tested p y disputed).session p = some (y.toStopping .hold)
      ∧ (cell (s.tested p y disputed).pay.notices PayCause.holdStop.idx).pending = true
      ∧ ((s.tested p y disputed).entry p).tracking = none := by
  have hsession := s.billed_session p y disputed
  rw [State.tested, if_pos h, State.enterStopping_session hsession, State.enterStopping_entry hsession,
    if_pos rfl, if_pos rfl, State.enterStopping_hold hsession]
  exact ⟨rfl, cell_setPending_self _ _ _, AllotEntry.endTracking_tracking _⟩

/-- R86: any other session stays as the reading left it. -/
theorem State.tested_runs {s : State} {p : Pedestal} {y : Session} (disputed : Bool)
    (h : (SessionState.counts y.state && y.atThreshold s.allot.parameters.holdReserve) = false) :
    (s.tested p y disputed).session p = some y ∧ (s.tested p y disputed).pay = s.pay
      ∧ (s.tested p y disputed).entry p = s.entry p := by
  rw [State.tested, h, if_neg Bool.false_ne_true]
  exact ⟨s.billed_session p y disputed, s.billed_pay p y disputed, s.billed_entry p y disputed p⟩

/-! ### The billed session as its rules word it -/

/-- R85, R86: the billed session, for the delta `d` and the bound `b`. -/
theorem Session.billReading_eq (x : Session) (peak reading : Nat) (stamp : Word32) {d b : Nat}
    (hd : meterDelta reading x.lastReading = d)
    (hb : plausibilityBound peak (stampDifference stamp x.lastStamp) = b) :
    x.billReading peak reading stamp =
      { x with
        lastReading := reading, lastStamp := stamp, billed := x.billed + min d b
        unbilled := (x.unbilled + (d - min d b)) % Config.unbilledModulus
        meterDispute := x.meterDispute || decide (b < d)
        current := billSegment x.current (min d b)
        flatFee := if decide (x.billed = 0 ∧ 0 < min d b) then x.firstSegment.snapshot.flatFee
          else x.flatFee
        state := if decide (x.billed = 0 ∧ 0 < min d b) = true ∧ x.state = .ready then .delivering
          else x.state } := by
  have hdisputed : decide (0 < d - min d b) = decide (b < d) := decide_eq_decide.mpr (by omega)
  simp only [Session.billReading, hd, hb, hdisputed, Bool.decide_and, Bool.and_eq_true,
    decide_eq_true_eq]

/-- R86: a reading neither takes a session into READY and DELIVERING nor out of them. -/
theorem Session.billReading_counts (x : Session) (peak reading : Nat) (stamp : Word32) :
    SessionState.counts (x.billReading peak reading stamp).state = true
      ↔ x.state = .ready ∨ x.state = .delivering := by
  rw [x.billReading_eq peak reading stamp rfl rfl]
  dsimp only
  split
  · next h => simp [SessionState.counts, h.2]
  · cases x.state <;> simp [SessionState.counts]

/-! ### The theorem -/

/-- Settles O50: the reading by the slot's state, and for an authorised session on either side of the
stop threshold. -/
theorem readingsAreBilled : Obligations.ReadingsAreBilled := by
  unfold Obligations.ReadingsAreBilled
  intro s p reading stamp
  refine ⟨fun hfree => State.takeReading_of_free hfree reading stamp, fun x hx =>
    ⟨fun hstate => State.takeReading_of_authorising hx hstate reading stamp, fun hstate => ?_⟩⟩
  intro delta bound energy first begins current y committed stops
  have hy : x.billReading (s.entry p).peak reading stamp = y :=
    x.billReading_eq (s.entry p).peak reading stamp rfl rfl
  have hstops : stops ↔
      (SessionState.counts y.state && y.atThreshold s.allot.parameters.holdReserve) = true := by
    rw [Bool.and_eq_true, ← hy, Session.billReading_counts, hy, Session.atThreshold, decide_eq_true_eq]
    exact Iff.rfl
  have hdisputed : x.disputed (s.entry p).peak reading stamp = decide (bound < delta) := rfl
  have hread : s.takeReading p reading stamp = (s.tested p y (decide (bound < delta))).putEntry p
      ((s.tested p y (decide (bound < delta))).entry p).resetPeak := by
    rw [State.takeReading_of_authorised hx hstate, State.billSession_eq, hy, hdisputed]
  have hgrant := s.tested_grant p y (decide (bound < delta))
  have hothers (q : Pedestal) (hq : q ≠ p) := State.takeReading_agreesAt s reading stamp hq
  refine ⟨fun h => ?_, fun h => ?_, ?_, ?_, fun h => ?_, fun h => ?_, hothers,
    s.takeReading_store p reading stamp, s.takeReading_time p reading stamp,
    s.takeReading_loop p reading stamp, s.takeReading_park p reading stamp⟩
  · obtain ⟨hsession, hnotice, htracking⟩ := State.tested_stops _ (hstops.mp h)
    rw [hread, State.entry_putEntry_self]
    exact ⟨hsession, hnotice, htracking⟩
  · obtain ⟨hsession, hpay, hentry⟩ :=
      State.tested_runs (decide (bound < delta)) (Bool.eq_false_iff.mpr (mt hstops.mpr h))
    rw [hread, State.entry_putEntry_self, hentry]
    exact ⟨hsession, hpay, rfl⟩
  · rw [hread, State.entry_putEntry_self]
    exact hgrant
  · rw [hread, State.entry_putEntry_self]
    exact hgrant
  · rw [hread, decide_eq_true h]
    exact s.tested_disputed p y
  · rw [hread, decide_eq_false (not_lt.mpr h)]
    exact s.tested_undisputed p y

end Sys2Proof.Machine
end

section
/-! SUPPORT. The tariff requests of the Site Port: WRITE TARIFF ROW (O38), and BIND TARIFF (O39),
whose binds, one pedestal after the other, come to one change of the two tables. -/

namespace Sys2Proof.Machine
open Sys2Proof

/-! ### WRITE TARIFF ROW (R93) -/

theorem rowOf_of_val {b : Byte} {r : RowIndex} (h : b.toNat = r.val) : rowOf b = some r := by
  simp [rowOf, h]

theorem rowOf_of_ge {b : Byte} (h : 8 ≤ b.toNat) : rowOf b = none := by
  simp [rowOf, h]

theorem State.rowBound_iff {s : State} {r : RowIndex} : s.rowBound r = true ↔
    ∃ p, (s.entry p).cfg.present = true ∧ cell s.account.bindings p = r := by
  simp [State.rowBound]

section
variable {s : State} {row valid grace : Byte} {rate : BitVec 24} {fee perMinute cap : BitVec 16}

theorem State.treatWriteTariffRow_range
    (h : 8 ≤ row.toNat ∨ 2 ≤ valid.toNat ∨ 999999 < rate.toNat) :
    s.treatWriteTariffRow row valid rate fee grace perMinute cap = s.answer .range [row] := by
  unfold State.treatWriteTariffRow
  split
  · next hrow hvalid =>
    obtain h | h | h := h
    · cases (rowOf_of_ge h).symm.trans hrow
    · cases (flagOf_of_ge h).symm.trans hvalid
    · exact if_pos h
  · rfl

/-- R93: arguments in range are refused for a bound row that they make invalid, else taken. -/
theorem State.treatWriteTariffRow_inRange {r : RowIndex} {v : Bool} (hrow : row.toNat = r.val)
    (hvalid : valid.toNat = v.toNat) (hrate : rate.toNat ≤ 999999) :
    s.treatWriteTariffRow row valid rate fee grace perMinute cap =
      if v = false ∧ s.rowBound r = true then s.answer .rowBound [row]
      else
        let new : TariffRow :=
          { valid := v
            tariff := { rate := rate.toNat, flatFee := fee.toNat, grace := grace.toNat,
                        perMinute := perMinute.toNat, cap := cap.toNat } }
        let rows := putCell s.account.rows r new
        ({ s with account := { s.account with rows := rows } } : State).answer .done [row] := by
  simp only [State.treatWriteTariffRow, rowOf_of_val hrow, flagOf_of_val hvalid,
    if_neg hrate.not_gt, Bool.and_eq_true, Bool.not_eq_true']

end

/-- Settles O38: the arguments are read first, then a row that a present pedestal is bound to may
not become invalid. -/
theorem writeTariffRowWrites : Obligations.WriteTariffRowWrites := by
  unfold Obligations.WriteTariffRowWrites
  intro s row valid grace rate fee perMinute cap hserve
  refine ⟨fun hrange => ?_, fun r v hrow hvalid hrate => ?_⟩
  · exact congrArg _ (State.siteRequest_refused
      (r := .writeTariffRow row valid rate fee grace perMinute cap) hserve
      (State.treatWriteTariffRow_range hrange))
  have htreat := State.treatWriteTariffRow_inRange (s := s) (grace := grace) (fee := fee)
    (perMinute := perMinute) (cap := cap) hrow hvalid hrate
  refine ⟨fun hv hbound => ?_, fun hfree => ?_⟩
  · rw [if_pos ⟨hv, State.rowBound_iff.mpr hbound⟩] at htreat
    exact congrArg _ (State.siteRequest_refused
      (r := .writeTariffRow row valid rate fee grace perMinute cap) hserve htreat)
  · have htaken : ¬ (v = false ∧ s.rowBound r = true) := by
      rintro ⟨hv, hbound⟩
      obtain ⟨p, hpresent, hp⟩ := State.rowBound_iff.mp hbound
      obtain hv' | hfree := hfree
      · cases hv.symm.trans hv'
      · cases hpresent.symm.trans (hfree p hp)
    rw [if_neg htaken] at htreat
    exact congrArg _ (State.siteRequest_replied
      (r := .writeTariffRow row valid rate fee grace perMinute cap) hserve htreat rfl)

/-! ### A session under a bind (R95 to R98) -/

/-- R94: the list has room for a new segment while seven at most stand before the current one. -/
theorem Session.hasRoom_iff (x : Session) :
    x.segments.length < Config.segmentLimit ↔ x.earlier.length < 7 := by
  rw [Session.segments, List.length_append]
  exact Nat.succ_lt_succ_iff

section
variable {x : Session} {row : RowIndex} {t : Tariff} {now : ClockStamp}

theorem Session.bind_of_authorising (h : x.state = .authorising) :
    x.bind row t now = { x with earlier := [], current := freshSegment row t now } := by
  simp only [Session.bind, h]

theorem Session.bind_of_authorised (h : x.state ≠ .authorising) :
    x.bind row t now = x.rebind row t now := by
  unfold Session.bind
  split
  · next hstate => exact absurd hstate h
  · rfl

theorem Session.rebind_of_same (h : x.current.snapshot = t) : x.rebind row t now = x := if_pos h.symm

theorem Session.rebind_of_room (h : x.current.snapshot ≠ t) (hroom : x.earlier.length < 7) :
    x.rebind row t now =
      { x with earlier := x.earlier ++ [x.current], current := freshSegment row t now } := by
  rw [Session.rebind, if_neg h.symm, if_pos (x.hasRoom_iff.mpr hroom), Session.segments]

theorem Session.rebind_of_full (h : x.current.snapshot ≠ t) (hfull : 7 ≤ x.earlier.length) :
    x.rebind row t now = { x with segmentsFull := true } := by
  rw [Session.rebind, if_neg h.symm, if_neg (mt x.hasRoom_iff.mp hfull.not_gt)]

end

/-! ### The tables after a bind (R95) -/

/-- R95: the slot of a pedestal that a bind names. -/
def State.boundSlot (s : State) (row : RowIndex) (p : Pedestal) : SessionSlot :=
  { s.slot p with
    session := (s.session p).map (·.bind row (cell s.account.rows row).tariff s.clockNow) }

/-- The session table and the bindings replaced. -/
def State.withBinds (s : State) (slots : Vector SessionSlot 16) (bindings : Vector RowIndex 16) :
    State :=
  { s with account := { s.account with slots := slots, bindings := bindings } }

theorem State.withBinds_site (s : State) (slots : Vector SessionSlot 16)
    (bindings : Vector RowIndex 16) : (s.withBinds slots bindings).site = s.site := rfl

/-- R95: the session table with the pedestals of a list bound to a row. -/
def State.boundSlots (s : State) (row : RowIndex) (l : List Pedestal) : Vector SessionSlot 16 :=
  mapCells (fun p y => if p ∈ l then s.boundSlot row p else y) s.account.slots

/-- R95: the bindings with the pedestals of a list bound to a row. -/
def State.boundBindings (s : State) (row : RowIndex) (l : List Pedestal) : Vector RowIndex 16 :=
  mapCells (fun p r => if p ∈ l then row else r) s.account.bindings

theorem State.cell_boundSlots (s : State) (row : RowIndex) (l : List Pedestal) (p : Pedestal) :
    cell (s.boundSlots row l) p = if p ∈ l then s.boundSlot row p else s.slot p :=
  cell_mapCells _ _ p

theorem State.cell_boundBindings (s : State) (row : RowIndex) (l : List Pedestal) (p : Pedestal) :
    cell (s.boundBindings row l) p = if p ∈ l then row else cell s.account.bindings p :=
  cell_mapCells _ _ p

theorem State.boundSlot_of_free {s : State} {p : Pedestal} (h : s.session p = none)
    (row : RowIndex) : s.boundSlot row p = s.slot p := by
  have hslot : (s.slot p).session = none := h
  rw [State.boundSlot, h, Option.map_none, ← hslot]

theorem State.boundSlot_of_session {s : State} {p : Pedestal} {x : Session}
    (h : s.session p = some x) (row : RowIndex) : s.boundSlot row p =
      { s.slot p with session := some (x.bind row (cell s.account.rows row).tariff s.clockNow) } := by
  rw [State.boundSlot, h, Option.map_some]

theorem State.bindPedestal_eq (row : RowIndex) (s : State) (p : Pedestal) :
    State.bindPedestal row s p = s.withBinds (putCell s.account.slots p (s.boundSlot row p))
      (putCell s.account.bindings p row) := by
  unfold State.bindPedestal
  cases hx : s.session p with
  | none =>
    rw [State.boundSlot_of_free hx, State.slot, putCell_cell]
    rfl
  | some x =>
    rw [State.boundSlot_of_session hx]
    rfl

theorem State.bindPedestal_slot (row : RowIndex) (s : State) (p q : Pedestal) :
    (State.bindPedestal row s p).slot q = if q = p then s.boundSlot row p else s.slot q := by
  rw [State.bindPedestal_eq]
  exact cell_putCell _ _ _ _

theorem State.bindPedestal_binding (row : RowIndex) (s : State) (p q : Pedestal) :
    cell (State.bindPedestal row s p).account.bindings q =
      if q = p then row else cell s.account.bindings q := by
  rw [State.bindPedestal_eq]
  exact cell_putCell _ _ _ _

/-- R95: a bind reads no other pedestal's slot. -/
theorem State.bindPedestal_boundSlot (row : RowIndex) (s : State) {p q : Pedestal} (h : q ≠ p) :
    (State.bindPedestal row s p).boundSlot row q = s.boundSlot row q := by
  unfold State.boundSlot State.session
  rw [State.bindPedestal_slot, if_neg h, State.bindPedestal_eq]
  rfl

theorem State.bindPedestal_boundSlots (row : RowIndex) (s : State) {p : Pedestal}
    {rest : List Pedestal} (hp : p ∉ rest) :
    (State.bindPedestal row s p).boundSlots row rest = s.boundSlots row (p :: rest) := by
  refine table_ext fun q => ?_
  rw [State.cell_boundSlots, State.cell_boundSlots, State.bindPedestal_slot]
  by_cases hq : q = p
  · simp [hq, hp]
  · simp [hq, State.bindPedestal_boundSlot row s hq]

theorem State.bindPedestal_boundBindings (row : RowIndex) (s : State) (p : Pedestal)
    (rest : List Pedestal) :
    (State.bindPedestal row s p).boundBindings row rest = s.boundBindings row (p :: rest) := by
  refine table_ext fun q => ?_
  rw [State.cell_boundBindings, State.cell_boundBindings, State.bindPedestal_binding]
  by_cases hq : q = p <;> simp [hq]

/-- R95: each bind reads its own pedestal's slot alone, so the binds of distinct pedestals are one
change of the two tables. -/
theorem State.foldl_bindPedestal (row : RowIndex) {l : List Pedestal} (hl : l.Nodup) (s : State) :
    l.foldl (State.bindPedestal row) s
      = s.withBinds (s.boundSlots row l) (s.boundBindings row l) := by
  induction l generalizing s with
  | nil =>
    have hslots : s.boundSlots row [] = s.account.slots :=
      table_ext fun p => by simp [State.cell_boundSlots, State.slot]
    have hbindings : s.boundBindings row [] = s.account.bindings :=
      table_ext fun p => by simp [State.cell_boundBindings]
    rw [hslots, hbindings]
    rfl
  | cons p rest ih =>
    obtain ⟨hp, hrest⟩ := List.nodup_cons.mp hl
    rw [List.foldl_cons, ih hrest, State.bindPedestal_boundSlots row s hp,
      State.bindPedestal_boundBindings, State.bindPedestal_eq]
    rfl

/-! ### BIND TARIFF (R95) -/

/-- The pedestals that a mask names, in ascending order. -/
def namedBy (mask : BitVec 16) : List Pedestal := pedestals.filter fun p => mask.getLsbD p.val

theorem mem_namedBy {mask : BitVec 16} {p : Pedestal} :
    p ∈ namedBy mask ↔ mask.getLsbD p.val = true := by
  simp [namedBy]

theorem State.bindMask_eq (s : State) (mask : BitVec 16) (row : RowIndex) :
    s.bindMask mask row
      = s.withBinds (s.boundSlots row (namedBy mask)) (s.boundBindings row (namedBy mask)) :=
  State.foldl_bindPedestal row (nodup_pedestals.filter _) s

theorem State.treatBindTariff_range {s : State} {mask : BitVec 16} {row : Byte}
    (h : 8 ≤ row.toNat) : s.treatBindTariff mask row = s.answer .range (bindEcho mask row) := by
  simp only [State.treatBindTariff, rowOf_of_ge h]

theorem State.treatBindTariff_inRange {s : State} {mask : BitVec 16} {row : Byte} {r : RowIndex}
    (h : row.toNat = r.val) : s.treatBindTariff mask row =
      if (cell s.account.rows r).valid then
        (s.withBinds (s.boundSlots r (namedBy mask)) (s.boundBindings r (namedBy mask))).answer .done
          (bindEcho mask row)
      else s.answer .invalidRow (bindEcho mask row) := by
  simp only [State.treatBindTariff, rowOf_of_val h, State.bindMask_eq]

/-- Settles O39: the two tables after the binds are read pedestal by pedestal, and the session of a
named pedestal by its state, its current snapshot and its room. -/
theorem bindTariffBinds : Obligations.BindTariffBinds := by
  unfold Obligations.BindTariffBinds
  intro s mask row hserve echo
  refine ⟨fun hrange => ?_, fun r hrow => ?_⟩
  · exact congrArg _ (State.siteRequest_refused (r := .bindTariff mask row) hserve
      (State.treatBindTariff_range hrange))
  have htreat := State.treatBindTariff_inRange (s := s) (mask := mask) hrow
  refine ⟨fun hinvalid => ?_, fun hvalid => ?_⟩
  · rw [if_neg (Bool.eq_false_iff.mp hinvalid)] at htreat
    exact congrArg _ (State.siteRequest_refused (r := .bindTariff mask row) hserve htreat)
  rw [if_pos hvalid] at htreat
  refine ⟨s.boundSlots r (namedBy mask), s.boundBindings r (namedBy mask),
    congrArg _ (State.siteRequest_replied (r := .bindTariff mask row) hserve htreat
      (State.withBinds_site _ _ _)),
    fun p hp => ?_, fun p hp => ?_⟩
  · have hother : p ∉ namedBy mask := mt mem_namedBy.mp (Bool.eq_false_iff.mp hp)
    rw [State.cell_boundBindings, State.cell_boundSlots, if_neg hother, if_neg hother]
    exact ⟨rfl, rfl⟩
  · have hnamed : p ∈ namedBy mask := mem_namedBy.mpr hp
    rw [State.cell_boundBindings, State.cell_boundSlots, if_pos hnamed, if_pos hnamed]
    refine ⟨rfl, fun hfree => State.boundSlot_of_free hfree r, fun x hx => ?_⟩
    rw [State.boundSlot_of_session hx]
    refine ⟨fun hstate => ?_, fun hstate hsame => ?_, fun hstate hdiffer hroom => ?_,
      fun hstate hdiffer hfull => ?_⟩
    · rw [Session.bind_of_authorising hstate]
      rfl
    · rw [Session.bind_of_authorised hstate, Session.rebind_of_same hsame, ← hx]
      rfl
    · rw [Session.bind_of_authorised hstate, Session.rebind_of_room hdiffer hroom]
      rfl
    · rw [Session.bind_of_authorised hstate, Session.rebind_of_full hdiffer hfull]

end Sys2Proof.Machine
end

section
/-! SUPPORT. The overstay minute (O46): when it ends, and what it charges (R105, R106). -/

namespace Sys2Proof.Machine
open Sys2Proof

theorem execOverstayMinuteEnd_eq {s : State} {p : Pedestal} {left : Option Nat}
    (h : s.minuteLeft p = left) :
    exec (.overstayMinuteEnd p) s = .next (s.expiry left fun t => t.endMinute p) := by
  rw [← h]
  rfl

theorem State.minuteLeft_of_unparked {s : State} {p : Pedestal} {x : Session}
    (hx : s.session p = some x) (h : x.state ≠ .parked) : s.minuteLeft p = none := by
  simp [State.minuteLeft, hx, h]

theorem State.minuteLeft_of_parked {s : State} {p : Pedestal} {x : Session}
    (hx : s.session p = some x) (h : x.state = .parked)
    (hlimit : (x.minutesEnded + 1) * 60000 ≤ 4294967295) :
    s.minuteLeft p = some ((x.minutesEnded + 1) * 60000 - x.overstayTime) := by
  simp [State.minuteLeft, hx, h, hlimit, Config.overstayMinute, Config.overstayLimit]

/-- R29: at a timer's due moment, a session whose state stands is no cause of a recompute. -/
theorem recomputeAfter_advance_putSession {s : State} {p : Pedestal} {x y : Session} (left : Nat)
    (hx : s.session p = some x) (hstate : y.state = x.state) :
    recomputeAfter s ((s.advance left).putSession p y) = (s.advance left).putSession p y := by
  refine recomputeAfter_advance left (fun q => ?_) (fun q => ?_) (by rw [State.putSession_loop])
    (fun f => by rw [State.feeder_putSession, State.advance_feeder])
  · rw [State.countsForPower_putSession, State.advance_countsForPower]
    split
    · next hq => rw [hq, State.countsForPower_of_session hx, hstate]
    · rfl
  · rw [State.entry_putSession, State.advance_entry]

/-- R105: a minute within the grace only counts. -/
theorem Session.endMinute_of_grace {x : Session}
    (h : x.minutesEnded + 1 ≤ x.current.snapshot.grace) :
    x.endMinute = { x with minutesEnded := x.minutesEnded + 1 } :=
  if_neg h.not_gt

/-- R106: a minute beyond the grace is charged. -/
theorem Session.endMinute_of_beyond {x : Session}
    (h : x.current.snapshot.grace < x.minutesEnded + 1) :
    x.endMinute = { x with
      minutesEnded := x.minutesEnded + 1
      overstayMinutes := x.overstayMinutes + 1
      overstayFee := x.overstayFee + x.overstayIncrement } :=
  if_pos h

/-- R105: at its due moment the minute of a PARKED session ends. -/
theorem exec_overstayMinuteEnd_of_parked {s : State} {p : Pedestal} {x : Session} {n : Nat}
    (hrun : s.resetAsserted = false) (hx : s.session p = some x) (hparked : x.state = .parked)
    (hlimit : (x.minutesEnded + 1) * 60000 ≤ 4294967295)
    (hn : n = (x.minutesEnded + 1) * 60000 - x.overstayTime) :
    exec (.overstayMinuteEnd p) s = .next
      ((s.advance n).putSession p (x.advance n).endMinute).finish := by
  have hends : (s.advance n).endMinute p = (s.advance n).putSession p (x.advance n).endMinute := by
    rw [State.endMinute, State.advance_session_of hx]
  obtain ⟨-, -, -, -, hstate⟩ := (x.advance n).endMinute_meter
  rw [execOverstayMinuteEnd_eq (State.minuteLeft_of_parked hx hparked hlimit), ← hn,
    State.expiry_some hrun, hends, recomputeAfter_advance_putSession n hx hstate]

/-- Settles O46, on either side of the grace; no input of the recompute changes. -/
theorem overstayMinuteCharges : Obligations.OverstayMinuteCharges := by
  unfold Obligations.OverstayMinuteCharges
  intro s p x hrun hx k
  refine ⟨fun hstate => ?_, fun hparked hlimit => ⟨fun hgrace => ?_, fun hbeyond => ?_⟩⟩
  · rw [execOverstayMinuteEnd_eq (State.minuteLeft_of_unparked hx hstate), State.expiry_none]
  · rw [exec_overstayMinuteEnd_of_parked hrun hx hparked hlimit rfl,
      Session.endMinute_of_grace (x := x.advance _) hgrace]
    rfl
  · rw [exec_overstayMinuteEnd_of_parked hrun hx hparked hlimit rfl,
      Session.endMinute_of_beyond (x := x.advance _) hbeyond]
    rfl

end Sys2Proof.Machine
end

section
/-! SUPPORT. The start of a round (O47): the directive of the poll frame (R134, R135, Table 1.5), and
the first exchange (R132, R133). -/

namespace Sys2Proof.Machine
open Sys2Proof

/-! ### The directive (R134, R135) -/

/-- Table 1.5, R135: the command's code, as its rules word it. -/
theorem State.command_code (s : State) (p : Pedestal) : BitVec.ofNat 8 (s.command p).code =
    if s.park.state = .powerFail then (6 : Byte)
    else match s.session p with
      | none => if (s.slot p).refused then 2 else if (s.slot p).unavailable then 3 else 0
      | some x => match x.state with
        | .authorising => 1
        | .ready | .delivering => if (s.entry p).admitted then 5 else 4
        | .stopping => 6
        | .parked => if x.parkedBy = some .complete then 5 else 6 := by
  by_cases hpark : s.park.state = .powerFail
  · rw [State.command, if_pos hpark, if_pos hpark]
    rfl
  rw [State.command, if_neg hpark, if_neg hpark]
  cases hx : s.session p with
  | none =>
    have hslot : (s.slot p).session = none := hx
    simp only [SessionSlot.command, hslot]
    cases (s.slot p).refused
    · cases (s.slot p).unavailable <;> rfl
    · rfl
  | some x =>
    have hslot : (s.slot p).session = some x := hx
    simp only [SessionSlot.command, hslot]
    cases x.state with
    | authorising => rfl
    | ready | delivering => cases (s.entry p).admitted <;> rfl
    | stopping => rfl
    | parked =>
      dsimp only
      split <;> rfl

/-- R101, R109, R134: what a directive says of the session, or of the row where the slot is FREE. -/
theorem State.directive_session (s : State) (p : Pedestal) :
    bytesOf 4 (s.sessionNumber p) ++ bytesOf 3 (s.displayRate p) ++ bytesOf 5 (s.committedOf p) =
      match s.session p with
      | some x => bytesOf 4 x.number ++ bytesOf 3 x.current.snapshot.rate ++ bytesOf 5 x.committed
      | none => bytesOf 4 0
        ++ bytesOf 3 (if (s.boundRow p).valid then (s.boundRow p).tariff.rate else 0)
        ++ bytesOf 5 0 := by
  unfold State.sessionNumber State.displayRate State.committedOf
  cases s.session p <;> rfl

theorem State.pollFrame_eq (s : State) (p : Pedestal) : s.pollFrame p =
    closeFrame 0x55 ([BitVec.ofNat 8 p.val, BitVec.ofNat 8 (s.command p).code]
      ++ bytesOf 2 (s.entry p).grant
      ++ (bytesOf 4 (s.sessionNumber p) ++ bytesOf 3 (s.displayRate p)
        ++ bytesOf 5 (s.committedOf p))) := by
  simp [State.pollFrame, bytesOf]

/-! ### The first exchange (R132, R133) -/

theorem exec_roundStart {s : State} {left : Nat} (hrun : s.resetAsserted = false)
    (hround : s.loop.nextRound = some left) (hidle : s.loop.exchange = none) :
    exec .roundStart s = .next ((s.advance left).roundBegun.beginExchange 0).finish := by
  show execRoundStart s = _
  unfold execRoundStart
  rw [hround, hidle]
  exact congrArg Host.Outcome.next (State.quiet_of_running hrun)

/-- R132: the pedestals that the new round polls, read before it begins. -/
theorem State.roundBegun_turn_iff {s : State} {left : Nat} {p : Pedestal} :
    (decide (0 ≤ p.val) && (s.advance left).roundBegun.polled p) = true ↔
      (s.entry p).cfg.present = true
        ∧ ((s.loopEntry p).link ≠ .lost ∨ (s.loop.round + 1).toNat % 8 = 0) := by
  rw [State.turn_iff, State.roundBegun_entry, State.advance_entry]
  exact and_iff_right p.val.zero_le

theorem State.beginExchange_of_idle {s : State} {start : Nat} (hidle : s.loop.exchange = none)
    (hnone : ∀ p : Pedestal, (decide (start ≤ p.val) && s.polled p) = false) :
    s.beginExchange start = s := by
  rw [State.beginExchange_of_none hnone, ← hidle]

/-- Settles O47: the poll frame field by field, then the first pedestal that the round polls. -/
theorem roundStartPolls : Obligations.RoundStartPolls := by
  unfold Obligations.RoundStartPolls
  intro command directive
  have hdirective (s : State) (p : Pedestal) : s.pollFrame p = directive s p := by
    rw [State.pollFrame_eq, State.command_code, State.directive_session]
    rfl
  clear_value directive
  refine ⟨hdirective, fun s left hrun hround hidle => ⟨fun p hp hfirst => ?_, fun hnone => ?_⟩⟩
  · rw [exec_roundStart hrun hround hidle,
      State.beginExchange_of_first (State.roundBegun_turn_iff.mpr hp), hdirective]
    · rfl
    · intro q hq
      rw [← Bool.not_eq_true, State.roundBegun_turn_iff]
      exact hfirst q hq
  · have hbegun : (s.advance left).roundBegun.loop.exchange = none := by
      show s.loop.exchange.map _ = none
      rw [hidle, Option.map_none]
    rw [exec_roundStart hrun hround hidle, State.beginExchange_of_idle hbegun]
    · rfl
    · intro p
      rw [← Bool.not_eq_true, State.roundBegun_turn_iff]
      exact hnone p

end Sys2Proof.Machine
end

section
/-! SUPPORT. The step law of the room (O14): no move makes more of the sessions and the queued records
together but an opening, which finds at most 31 records queued (R6), and the scan, which finds at most one
record in each slot and no session open (R125). -/

namespace Sys2Proof.Machine
open Sys2Proof

/-! ### The count of open sessions -/

/-- R1: the slots are sixteen. -/
theorem State.occupied_le (s : State) : s.occupied ≤ 16 :=
  (List.length_filter_le _ _).trans (by decide)

/-- A change of one open session's record leaves the count alone. -/
theorem State.occupied_of_update {s t : State} {p : Pedestal} {x y : Session}
    (hx : s.session p = some x)
    (hsession : ∀ q, t.session q = if q = p then some y else s.session q) :
    t.occupied = s.occupied := State.occupied_congr fun q => by
  rw [hsession]
  split
  · next hq =>
    rw [hq, hx]
    rfl
  · rfl

/-- R14, R23: the end of a session lowers the count by one. -/
theorem State.occupied_of_end {s t : State} {p : Pedestal} {x : Session} (hx : s.session p = some x)
    (hsession : ∀ q, t.session q = if q = p then none else s.session q) :
    t.occupied + 1 = s.occupied := by
  have hmem : p ∈ pedestals.filter fun q => (s.session q).isSome := by simp [hx]
  have hkept : (pedestals.filter fun q => (t.session q).isSome)
      = (pedestals.filter fun q => (s.session q).isSome).erase p := by
    rw [(nodup_pedestals.filter _).erase_eq_filter, List.filter_filter]
    refine List.filter_congr fun q _ => ?_
    by_cases hq : q = p <;> simp [hsession, hq]
  rw [State.occupied, State.occupied, hkept, List.length_erase_of_mem hmem]
  exact Nat.sub_add_cancel (List.length_pos_of_mem hmem)

/-! ### The length of the settlement queue -/

theorem State.enqueueRecord_length (s : State) (r : SettlementRecord) :
    (s.enqueueRecord r).store.queue.length = s.store.queue.length + 1 := by
  simpa using congrArg List.length (s.enqueueRecord_identities r)

theorem State.claimFor_length {s t : State} {n : Nat} {c : SlotClaim}
    (h : s.claimFor n = some (t, c)) : t.store.queue.length = s.store.queue.length := by
  unfold State.claimFor at h
  split at h
  · cases h
    show (updateNamed _ _ (s.takeSlot _).store.queue).length = _
    rw [updateNamed_length, State.takeSlot_queue]
  · cases h

theorem State.endNotDurable_length (s : State) (n : Nat) :
    (s.endNotDurable n).store.queue.length = s.store.queue.length :=
  updateNamed_length n _ _

theorem State.writeFailed_length (s : State) (n : Nat) (i : RecordSlot) (retry : Bool)
    (left : SlotCells) :
    (s.writeFailed n i retry left).store.queue.length = s.store.queue.length := by
  unfold State.writeFailed
  dsimp only
  split
  · exact State.endNotDurable_length _ n
  · split
    · next t c hclaim =>
      have hlength := State.claimFor_length hclaim
      exact hlength
    · exact State.endNotDurable_length _ n

theorem State.endWrite_length (s : State) (n : Nat) (i : RecordSlot) (retry : Bool)
    (v : WriteVerify) : (s.endWrite n i retry v).store.queue.length = s.store.queue.length := by
  cases v with
  | pass =>
    show (updateNamed n _ _).length = _
    rw [updateNamed_length]
    cases hn : s.queued n <;> rfl
  | fail left takes => exact s.writeFailed_length n i retry _
  | eraseFail left => exact s.writeFailed_length n i retry left

@[simp] theorem State.payDeferred_store (s : State) (kind : Byte) (r : Reply) :
    (s.payDeferred kind r).store = s.store := by
  unfold State.payDeferred
  split <;> rfl

@[simp] theorem State.siteDeferred_store (s : State) (kind : Byte) (r : Reply) :
    (s.siteDeferred kind r).store = s.store := by
  unfold State.siteDeferred
  split <;> rfl

/-- R121: a settled mark that passes takes its record off the queue. -/
theorem State.endMark_length (s : State) (n : Nat) (i : RecordSlot) (v : Verify Bool) :
    (s.endMark n i v).store.queue.length ≤ s.store.queue.length := by
  cases v with
  | pass =>
    rw [State.endMark, State.payDeferred_store]
    exact (dropNamed_sublist n s.store.queue).length_le
  | fail blank =>
    rw [State.endMark, State.payDeferred_store]
    exact (updateNamed_length n _ s.store.queue).le

theorem State.claimAgain_length (s : State) (n : Nat) :
    (s.claimAgain n).store.queue.length = s.store.queue.length := by
  unfold State.claimAgain
  split
  · next t c hclaim => exact State.claimFor_length hclaim
  · exact s.endNotDurable_length n

theorem State.endErase_length (s : State) (i : RecordSlot) (v : Verify SlotCells) :
    (s.endErase i v).store.queue.length = s.store.queue.length := by
  cases v with
  | pass => rfl
  | fail left =>
    rw [State.endErase, State.eraseFailed]
    split
    · exact State.claimAgain_length _ _
    · rfl

theorem State.endReservation_queue (s : State) (l : Nat) (v : Verify (Area Nat)) :
    (s.endReservation l v).store.queue = s.store.queue := by
  cases v <;> rfl

theorem State.endSave_queue (s : State) (c : Settings) (v : Verify (Area Settings)) :
    (s.endSave c v).store.queue = s.store.queue := by
  cases v <;> rw [State.endSave, State.siteDeferred_store] <;> rfl

/-- R125: the scan finds at most one record in each of the 48 slots. -/
theorem State.endScan_length (s : State) (aged : List (RecordSlot × SlotCells)) :
    (s.endScan aged).store.queue.length ≤ 48 := by
  have hsorted (l : List Found) : (l.foldr insertFound []).length = l.length := by
    induction l with
    | nil => rfl
    | cons x rest ih =>
      rw [List.foldr_cons, insertFound_eq_orderedInsert, List.orderedInsert_length, ih,
        List.length_cons]
  obtain ⟨x, tx, driver, hbegin⟩ := (s.reopened aged).beginExchange_eq 0
  rw [State.endScan_eq, hbegin]
  calc ((keepBest (s.arrayScanned aged).found).foldr insertFound [] |>.map Found.entry).length
      = (keepBest (s.arrayScanned aged).found).length := by rw [List.length_map, hsorted]
    _ ≤ (s.arrayScanned aged).found.length := List.length_filter_le _ _
    _ ≤ recordSlots.length := List.length_filterMap_le _ _
    _ = 48 := by rw [recordSlots_eq, List.length_finRange]

/-! ### Moves within the room -/

/-- The start-up is where it was, and the open sessions, alone or with the queued records, are no more
than before. -/
structure State.withinRoom (t s : State) : Prop where
  startStep : t.park.startStep = s.park.startStep
  starting  : t.park.state = .starting ↔ s.park.state = .starting
  occupied  : t.occupied ≤ s.occupied
  total     : t.occupied + t.store.queue.length ≤ s.occupied + s.store.queue.length

theorem State.withinRoom_of_park {s t : State} (hpark : t.park = s.park)
    (hoccupied : t.occupied = s.occupied)
    (hqueue : t.store.queue.length ≤ s.store.queue.length) : t.withinRoom s :=
  { startStep := by rw [hpark]
    starting := by rw [hpark]
    occupied := hoccupied.le
    total := Nat.add_le_add hoccupied.le hqueue }

theorem State.withinRoom_of_storeOnly {s t : State} (h : t.storeOnly s)
    (hqueue : t.store.queue.length ≤ s.store.queue.length) : t.withinRoom s :=
  State.withinRoom_of_park h.park (State.tables_occupied (State.tables_of_storeOnly h)) hqueue

theorem RoomLaw.within {s t : State} (hs : RoomLaw s) (h : t.withinRoom s) : RoomLaw t := by
  obtain ⟨hstep, hstarting, hroom⟩ := hs
  refine ⟨fun ht => ?_, fun ht => ?_, h.total.trans hroom⟩
  · rw [h.startStep] at ht
    exact h.starting.mpr (hstep ht)
  · exact Nat.le_zero.mp (h.occupied.trans (hstarting (h.starting.mp ht)).le)

/-- R115: out of STARTING, with no step of the start-up in progress, the law is the bound alone. -/
theorem RoomLaw.of_started {t : State} (hstep : t.park.startStep = none)
    (hpark : t.park.state ≠ .starting) (hroom : t.occupied + t.store.queue.length ≤ 48) : RoomLaw t :=
  ⟨fun h => by simp [hstep] at h, fun h => absurd h hpark, hroom⟩

/-! ### The count that an end of a session reports (R23) -/

theorem State.reportCount_startStep (s : State) :
    s.reportCount.park.startStep = s.park.startStep := by
  unfold State.reportCount
  dsimp only
  split <;> rfl

/-- R180: the report of the count moves the park from DRAINING at most, so neither into STARTING nor out
of it. -/
theorem State.reportCount_starting_iff (s : State) :
    s.reportCount.park.state = .starting ↔ s.park.state = .starting := by
  unfold State.reportCount
  dsimp only
  split
  · next h =>
    simp only [Bool.and_eq_true, decide_eq_true_eq] at h
    exact iff_of_false nofun (by rw [h.1]; exact nofun)
  · rfl

theorem State.void_withinRoom {s : State} {p : Pedestal} {x : Session} (hx : s.session p = some x)
    (refused : Bool) : (s.void p refused).withinRoom s := by
  have hend := State.occupied_of_end hx (State.void_session hx refused)
  have hle : (s.void p refused).occupied ≤ s.occupied := by omega
  refine ⟨?_, ?_, hle, ?_⟩
  · rw [State.void_eq hx, State.reportCount_startStep]
  · rw [State.void_eq hx, State.reportCount_starting_iff]
  · rw [State.void_store]
    exact Nat.add_le_add_right hle _

/-- R22, R115: a close frees a slot as its record joins the queue. -/
theorem State.close_withinRoom {s : State} {p : Pedestal} {x : Session} (hx : s.session p = some x)
    (reason : CloseReason) (refused : Bool) : (s.close p reason refused).withinRoom s := by
  have hend := State.occupied_of_end hx (State.close_session hx reason refused)
  have hqueue : (s.close p reason refused).store.queue.length = s.store.queue.length + 1 := by
    rw [State.close_store hx, State.enqueueRecord_length]
  have hpark : ((s.enqueueRecord (x.record p s.account.nextClose reason s.clockNow)).countClose.freeSlot
      p refused x.number).park = s.park := State.enqueueRecord_park s _
  refine ⟨?_, ?_, by omega, by omega⟩
  · rw [State.close_eq_enqueue hx, State.reportCount_startStep, hpark]
  · rw [State.close_eq_enqueue hx, State.reportCount_starting_iff, hpark]

/-! ### The moves -/

/-- R6, R115: an opening finds fewer than 32 records queued, and the open sessions are at most 16. -/
theorem RoomLaw.opens {s : State} (hs : RoomLaw s) {p : Pedestal} (reading : Nat) (stamp : Word32)
    (hopen : s.canOpen p = true) : RoomLaw (s.openSession p reading stamp) := by
  obtain ⟨hstep, -, -⟩ := hs
  obtain ⟨hpark, hqueue, -⟩ := State.canOpen_iff.mp hopen
  have hstart : s.park.startStep = none := by
    by_contra h
    have hstarting := hstep (Option.isSome_iff_ne_none.mpr h)
    rw [hpark] at hstarting
    cases hstarting
  refine .of_started ?_ ?_ ?_
  · rw [State.openSession_eq, State.testReservation_park, State.openCounted,
      State.reportCount_startStep]
    exact hstart
  · rw [State.openSession_park hpark]
    exact nofun
  · rw [State.openSession_queue]
    have := (s.openSession p reading stamp).occupied_le
    omega

theorem RoomLaw.tableMove {s t : State} (hs : RoomLaw s) (h : TableMove s t) : RoomLaw t := by
  cases h with
  | opens p reading stamp _ hopen => exact hs.opens reading stamp hopen
  | advance n => exact hs.within (State.withinRoom_of_park rfl (State.advance_occupied n s) le_rfl)
  | session p x y hx _ =>
    exact hs.within (State.withinRoom_of_park rfl
      (State.occupied_of_update hx fun q => State.session_putSession s p q y) le_rfl)
  | flags p refused unavailable hfree =>
    refine hs.within (State.withinRoom_of_park rfl (State.occupied_congr fun q => ?_) le_rfl)
    rw [State.session_putSlot]
    split
    · next hq => rw [hq]; rfl
    · rfl
  | voids p refused x hx _ => exact hs.within (State.void_withinRoom hx refused)
  | closes p reason refused x hx _ => exact hs.within (State.close_withinRoom hx reason refused)
  | authorises p x hold ref hx _ =>
    exact hs.within (State.withinRoom_of_park rfl
      (State.occupied_of_update hx fun q => State.authoriseSession_session s p q x hold ref) le_rfl)
  | stops p reason x hx _ =>
    exact hs.within (State.withinRoom_of_park (s.enterStopping_park p reason)
      (State.occupied_of_update hx (State.enterStopping_session hx reason))
      (by rw [State.enterStopping_store]))
  | parks p by_ x hx _ =>
    exact hs.within (State.withinRoom_of_park (s.enterParked_park p by_)
      (State.occupied_of_update hx (State.enterParked_session hx by_))
      (by rw [State.enterParked_store]))
  | resetsPeak p | tracks p draw | ramps p => exact hs.within (State.withinRoom_of_park rfl rfl le_rfl)

theorem RoomLaw.move {s t : State} (hs : RoomLaw s) (h : Move s t) : RoomLaw t := by
  have hsame (hpark : t.park = s.park) (htables : t.tables = s.tables)
      (hqueue : t.store.queue.length ≤ s.store.queue.length) : RoomLaw t :=
    hs.within (State.withinRoom_of_park hpark (State.tables_occupied htables) hqueue)
  obtain ⟨hstep, hstarting, hroom⟩ := hs
  cases h with
  | table h => exact RoomLaw.tableMove ⟨hstep, hstarting, hroom⟩ h
  | exchange n =>
    obtain ⟨x, tx, driver, hbegin⟩ := s.beginExchange_eq n
    exact hsame (by rw [hbegin]) (s.beginExchange_tables n) (by rw [hbegin])
  | park x hpark hx =>
    refine .of_started ?_ hx hroom
    by_contra h
    exact hpark (hstep (Option.isSome_iff_ne_none.mpr h))
  | halts => exact .of_started rfl nofun hroom
  | reserves =>
    exact hsame s.testReservation_park (by simp [State.tables]) (by rw [State.testReservation_queue])
  | settles e rest _ _ => exact hsame rfl rfl (updateNamed_length _ _ _).le
  | releases e rest _ _ => exact hsame rfl rfl (dropNamed_sublist _ _).length_le
  | endsWrite n i eraseFirst retry left v _ =>
    have h := s.endWrite_storeOnly n i retry v
    exact hsame h.park (State.tables_of_storeOnly h) (s.endWrite_length n i retry v).le
  | endsMark n i left v _ =>
    have h := s.endMark_storeOnly n i v
    exact hsame h.park (State.tables_of_storeOnly h) (s.endMark_length n i v)
  | endsErase i left v _ =>
    have h := s.endErase_storeOnly i v
    exact hsame h.park (State.tables_of_storeOnly h) (s.endErase_length i v).le
  | endsReservation l left v _ =>
    have h := s.endReservation_storeOnly l v
    exact hsame h.park (State.tables_of_storeOnly h) (by rw [s.endReservation_queue l v])
  | endsSave c left v _ =>
    have h := s.endSave_storeOnly c v
    exact hsame h.park (State.tables_of_storeOnly h) (by rw [s.endSave_queue c v])
  | scans aged hscan =>
    have hfree : (s.endScan aged).occupied = 0 := by
      rw [State.tables_occupied (s.endScan_tables aged)]
      exact hstarting (hstep (by rw [hscan]; rfl))
    have hpark : (s.endScan aged).park = (s.reopened aged).park := by
      obtain ⟨x, tx, driver, hbegin⟩ := (s.reopened aged).beginExchange_eq 0
      rw [State.endScan_eq, hbegin]
    refine .of_started ?_ ?_ ?_
    · rw [hpark]
      rfl
    · rw [hpark]
      show (if s.park.startQuiesced then ParkState.quiesced else .open) ≠ .starting
      split <;> exact nofun
    · rw [hfree, Nat.zero_add]
      exact s.endScan_length aged
  | time | pay | site | meas | factor | misses | answers | stores | round | row | binding | saves =>
    exact hsame rfl rfl le_rfl

/-! ### Configurations and the theorem -/

theorem State.writeFeeder_frame (s : State) (f : Feeder) (e : FeederEntry) :
    (s.writeFeeder f e).park = s.park ∧ (s.writeFeeder f e).store = s.store := by
  rw [State.writeFeeder_eq]
  split <;> exact ⟨rfl, rfl⟩

theorem State.configurePedestal_frame (s : State) (p : Pedestal) (c : PedestalConfig) :
    (s.configurePedestal p c).park = s.park ∧ (s.configurePedestal p c).store = s.store := by
  unfold State.configurePedestal
  dsimp only
  split <;> exact ⟨rfl, rfl⟩

/-- R28, R129: a configuration changes neither the room nor, but from the restore to the scan, the step of
the start-up. -/
theorem RoomLaw.configured {s t : State} (hs : RoomLaw s) (h : Configured s t) : RoomLaw t := by
  have hoccupied : t.occupied = s.occupied :=
    State.occupied_congr fun p => by rw [State.session_congr h.slots.1]
  have hsame (hpark : t.park = s.park) (hstore : t.store = s.store) : RoomLaw t :=
    hs.within (State.withinRoom_of_park hpark hoccupied (by rw [hstore]))
  cases h with
  | siteCeiling c => exact hsame rfl rfl
  | feeder f c => 
    obtain ⟨hpark, hstore⟩ := s.writeFeeder_frame f ((s.feeder f).configure c)
    exact hsame hpark hstore
  | pedestal p c _ =>
    obtain ⟨hpark, hstore⟩ := s.configurePedestal_frame p c
    exact hsame hpark hstore
  | parameters q startQuiesced => exact hs.within ⟨rfl, .rfl, hoccupied.le, by rw [hoccupied]; rfl⟩
  | restored r hrestore =>
    obtain ⟨hstep, hstarting, hroom⟩ := hs
    have hstate := hstep (by rw [hrestore]; rfl)
    have hpark := congrArg State.park (s.restored_derates r).rest
    have hstore := congrArg State.store (s.restored_derates r).rest
    refine ⟨fun _ => ?_, fun _ => hoccupied.trans (hstarting hstate), ?_⟩
    · rw [hpark]
      exact hstate
    · rw [hoccupied, hstore]
      exact hroom

theorem RoomLaw.effect {s t : State} (hs : RoomLaw s) (h : Effect s t) : RoomLaw t := by
  refine h.keeps (P := RoomLaw) (fun _ _ h hm => h.move hm) (fun u hu => ?_) (fun u hu => ?_)
    (fun u hu => ?_) (fun cut => ?_) afterReset_roomLaw hs
  · exact (hs.configured hu).within (State.withinRoom_of_park rfl u.occupied_recompute le_rfl)
  · exact hu.within (State.withinRoom_of_park rfl u.occupied_recompute le_rfl)
  · exact hu.within (State.withinRoom_of_park u.finish_park u.occupied_finish (by rw [u.finish_queue]))
  · exact hs.within (State.withinRoom_of_park rfl rfl le_rfl)

/-- Settles O14, move by move: a close frees a slot for its record, an opening needs fewer than 32 records
queued, and the scan, with no session open, finds at most one record a slot. -/
theorem stepKeepsRoomLaw : Obligations.StepKeepsRoomLaw := by
  unfold Obligations.StepKeepsRoomLaw
  intro s t hs hstep
  exact step_keeps (P := RoomLaw) (fun s _ h => h.within (State.withinRoom_of_park rfl rfl le_rfl))
    (fun s h => h.tableMove (.advance s 1)) (fun _ _ h heffect => h.effect heffect) hs hstep

end Sys2Proof.Machine
end

section
/-! SUPPORT. The end of an event (O4) and the start of an idle Store Controller (O5): the item that the
work list starts (R112), and the notices and the pins behind it (R157, R158, R174). -/

namespace Sys2Proof.Machine
open Sys2Proof

/-! ### The item that starts (R112) -/

theorem State.startWork_stays {s : State}
    (h : s.park.state = .starting ∨ s.store.flight.isSome = true) : s.startWork = s := by
  rw [State.startWork, if_pos]
  simpa using h

theorem State.startWork_empty {s : State} (hfirst : s.store.firstClass = [])
    (hsecond : s.store.secondClass = []) : s.startWork = s := by
  simp [State.startWork, hfirst, hsecond]

section
variable {s : State} (hpark : s.park.state ≠ .starting) (hidle : s.store.flight = none)
include hpark hidle

theorem State.startWork_first {item : WorkItem} {rest : List WorkItem}
    (hfirst : s.store.firstClass = item :: rest) :
    s.startWork = ({ s with store := { s.store with firstClass := rest } } : State).startItem item := by
  rw [State.startWork, if_neg (by simp [hpark, hidle]), hfirst]

theorem State.startWork_second {item : WorkItem} {rest : List WorkItem}
    (hfirst : s.store.firstClass = []) (hsecond : s.store.secondClass = item :: rest) :
    s.startWork =
      ({ s with store := { s.store with secondClass := rest } } : State).startItem item := by
  rw [State.startWork, if_neg (by simp [hpark, hidle]), hfirst, hsecond]

end

/-- R122: of the slot states a start changes that of an erase's own slot alone. -/
def WorkItem.startedStates (item : WorkItem) (v : Vector SlotState 48) : Vector SlotState 48 :=
  match item with
  | .erase i => putCell v i .erasing
  | _ => v

/-- R112: an item's start puts an operation in flight, or none, and changes no more than that and an
erase's slot. -/
theorem State.startItem_store (s : State) (item : WorkItem) :
    (s.startItem item).store = { s.store with
      flight := (s.startItem item).store.flight
      slotStates := item.startedStates s.store.slotStates } := by
  cases item with
  | recordWrite n | settledMark n =>
    unfold State.startItem
    dsimp only
    repeat' split
    all_goals rfl
  | reservation l => rfl
  | erase i => rfl
  | save c => rfl

/-- R112: the end of an event takes nothing from the work list, or the head of the first class, or with
that empty the head of the second. -/
theorem State.startWork_cases (s : State) : s.startWork = s
    ∨ s.park.state ≠ .starting ∧ s.store.flight = none ∧ ∃ item first second,
      (s.store.firstClass = item :: first ∧ s.store.secondClass = second
        ∨ s.store.firstClass = [] ∧ first = [] ∧ s.store.secondClass = item :: second)
      ∧ s.startWork.store = { s.store with
          firstClass := first, secondClass := second, flight := s.startWork.store.flight
          slotStates := item.startedStates s.store.slotStates } := by
  by_cases hstays : s.park.state = .starting ∨ s.store.flight.isSome = true
  · exact .inl (State.startWork_stays hstays)
  obtain ⟨hpark, hidle⟩ := not_or.mp hstays
  have hidle : s.store.flight = none := by simpa using hidle
  cases hfirst : s.store.firstClass with
  | cons item rest =>
    refine .inr ⟨hpark, hidle, item, rest, s.store.secondClass, .inl ⟨rfl, rfl⟩, ?_⟩
    rw [State.startWork_first hpark hidle hfirst, State.startItem_store]
  | nil =>
    cases hsecond : s.store.secondClass with
    | nil => exact .inl (State.startWork_empty hfirst hsecond)
    | cons item rest =>
      refine .inr ⟨hpark, hidle, item, s.store.firstClass, rest, .inr ⟨rfl, hfirst, rfl⟩, ?_⟩
      rw [State.startWork_second hpark hidle hfirst hsecond, State.startItem_store]

/-! ### The notices at the end of an event (R157, R174) -/

theorem State.finish_store (s : State) : s.finish.store = s.startWork.store := rfl

/-- Of the two ports the end of an event changes the notices and the pins alone. -/
theorem State.finish_ports (s : State) : s.finish.pay.state = s.pay.state
    ∧ s.finish.pay.dropped = s.pay.dropped ∧ s.finish.pay.window = s.pay.window
    ∧ s.finish.pay.payDo = s.pay.payDo ∧ s.finish.site.state = s.site.state
    ∧ s.finish.site.dropped = s.site.dropped ∧ s.finish.site.address = s.site.address
    ∧ s.finish.site.siteRead = s.site.siteRead := by
  simp [State.finish]

/-- R157: the event causes of the Payment Port are as they were. -/
theorem State.finish_payNotice (s : State) {k : Fin 5} (h : payCondition k = false) :
    cell s.finish.pay.notices k = cell s.pay.notices k := by
  simp only [payCondition, Bool.or_eq_false_iff, decide_eq_false_iff_not] at h
  obtain ⟨⟨hauth, hready⟩, hbacklog⟩ := h
  have hbacklog : k ≠ PayCause.backlog.idx := hbacklog
  have hready : k ≠ PayCause.recordReady.idx := hready
  have hauth : k ≠ PayCause.authPending.idx := hauth
  show cell s.startWork.payNotices k = _
  rw [State.payNotices, cell_setPending_of_ne _ _ hbacklog, cell_setPending_of_ne _ _ hready,
    cell_setPending_of_ne _ _ hauth, State.startWork_pay]

/-- R157, R174: the condition causes stand at their conditions. -/
theorem State.drive_conditionsHold (s : State) : s.drive.conditionsHold := by
  refine ⟨?_, ?_, ?_, cell_setPending_self s.site.notices 2 _⟩
  · show (cell s.payNotices 0).pending = _
    rw [State.payNotices, cell_setPending_of_ne _ _ (by decide), cell_setPending_of_ne _ _ (by decide)]
    exact cell_setPending_self _ _ _
  · show (cell s.payNotices 1).pending = _
    rw [State.payNotices, cell_setPending_of_ne _ _ (by decide)]
    exact cell_setPending_self _ _ _
  · exact cell_setPending_self _ _ _

/-! ### The theorems -/

/-- Settles O4: the start of work leaves every other block alone, and the outputs are driven after it. -/
theorem eventEndSettlesOutputs : Obligations.EventEndSettlesOutputs := by
  unfold Obligations.EventEndSettlesOutputs
  intro s
  obtain ⟨hstate, hdropped, hwindow, hpayDo, hstate', hdropped', haddress, hread⟩ := s.finish_ports
  refine ⟨s.finish_time, s.finish_park, s.finish_account, s.finish_allot, s.finish_loop, s.finish_meas,
    s.finish_resetAsserted, s.finish_addrPin, s.finish_pending, s.finish_medium.1, s.finish_queue,
    s.finish_medium.2, fun h => ?_, fun hfirst hsecond => ?_, ?_, hstate, hdropped,
    hwindow, hpayDo, hstate', hdropped', haddress, hread,
    fun c => ⟨s.finish_payLevel c, fun h => congrArg Notice.pending (s.finish_payNotice h)⟩,
    fun c => ⟨s.finish_siteLevel c, fun h => congrArg Notice.pending (s.finish_siteNotice ?_)⟩,
    s.startWork.drive_conditionsHold, rfl, rfl, rfl⟩
  · rw [State.finish_store, State.startWork_stays h]
  · rw [State.finish_store, State.startWork_empty hfirst hsecond]
  · obtain hstays | ⟨hpark, hidle, item, first, second, htaken, hstarted⟩ := s.startWork_cases
    · exact .inl (by rw [State.finish_store, hstays])
    · refine .inr ⟨hpark, hidle, item, first, second, htaken, ?_⟩
      cases item <;> exact hstarted
  · exact of_decide_eq_false h

/-- Settles O5, by the item that starts. -/
theorem idleStoreStartsFirstItem : Obligations.IdleStoreStartsFirstItem := by
  unfold Obligations.IdleStoreStartsFirstItem
  intro s hpark hidle
  have hfirst {item : WorkItem} {rest : List WorkItem} (h : s.store.firstClass = item :: rest) :
      s.finish.store
        = (({ s with store := { s.store with firstClass := rest } } : State).startItem item).store :=
    by rw [State.finish_store, State.startWork_first hpark hidle h]
  have hsecond {item : WorkItem} {rest : List WorkItem} (h : s.store.firstClass = [])
      (h' : s.store.secondClass = item :: rest) : s.finish.store
        = (({ s with store := { s.store with secondClass := rest } } : State).startItem item).store :=
    by rw [State.finish_store, State.startWork_second hpark hidle h h']
  refine ⟨fun n rest e i h hn hslot => ?_, fun n rest e i h hn hslot => ?_, fun l rest h => hfirst h,
    fun i rest h h' => hsecond h h', fun c rest h h' => hsecond h h'⟩
  · have hn : ({ s with store := { s.store with firstClass := rest } } : State).queued n = some e := hn
    rw [hfirst h]
    simp only [State.startItem, hn, hslot]
    rfl
  · have hn : ({ s with store := { s.store with firstClass := rest } } : State).queued n = some e := hn
    rw [hfirst h]
    simp only [State.startItem, hn, hslot]
    rfl

end Sys2Proof.Machine
end

section
/-! SUPPORT. The readouts of the two ports (O23), SETTLE (O33) and SAVE SETTINGS (O41): what each
treatment answers, or defers, and the event of a deferred request. -/

namespace Sys2Proof.Machine
open Sys2Proof

/-! ### STATUS, which every park state takes (R152, R165) -/

theorem exec_payStatus {s : State} (h : s.payTakes = true) :
    exec .payStatus s = .next (s.payReplied 0x01 .done s.payStatusBody).finish := by
  have ⟨hrun, htakes⟩ : s.resetAsserted = false ∧ s.pay.state.takes = true := by
    simpa [State.payTakes] using h
  show Host.Outcome.next (s.payRequest .status) = _
  rw [State.payRequest, State.event_of_running hrun, State.payArrive_reply htakes rfl,
    recomputeAfter_of_same (s := s) (t := s.windowEnded.payReply _ _ _) rfl rfl rfl]
  rfl

theorem exec_siteStatus {s : State} (h : s.siteTakes = true) :
    exec .siteStatus s = .next (s.siteReplied 0x21 .done s.siteStatusBody).finish := by
  have ⟨hrun, htakes⟩ : s.resetAsserted = false ∧ s.site.state.takes = true := by
    simpa [State.siteTakes] using h
  show Host.Outcome.next (s.siteRequest .status) = _
  rw [State.siteRequest, State.quiet_of_running hrun, State.siteArrive_reply htakes rfl]
  rfl

/-! ### The other readouts (R119, R155, R171) -/

theorem optionalField_eq (t : Option Nat) : optionalField 4 t =
    match t with
    | some left => 1 :: bytesOf 4 left
    | none => [0, 0, 0, 0, 0] := by
  cases t <;> rfl

theorem State.treatNextAuthorisation_of_empty {s : State} (h : s.account.authQueue = []) :
    s.treatNextAuthorisation = s.answer .empty [] := by
  rw [State.treatNextAuthorisation, h]

theorem State.treatNextAuthorisation_of_head {s : State} {p : Pedestal} {rest : List Pedestal}
    {x : Session} (h : s.account.authQueue = p :: rest) (hx : s.session p = some x) :
    s.treatNextAuthorisation = s.answer .done (nextAuthorisationBody p x) := by
  simp only [State.treatNextAuthorisation, h, hx]

theorem State.treatViewSession_of_free {s : State} {b : Byte} {p : Pedestal} (hb : b.toNat = p.val)
    (h : s.session p = none) : s.treatViewSession b = s.answer .noSession [] := by
  simp only [State.treatViewSession, pedestalOf_of_val hb, h]

theorem State.treatViewSession_of_session {s : State} {b : Byte} {p : Pedestal} {x : Session}
    (hb : b.toNat = p.val) (h : s.session p = some x) :
    s.treatViewSession b = s.answer .done (sessionView p x) := by
  simp only [State.treatViewSession, pedestalOf_of_val hb, h]

theorem State.treatFetch_of_ready {s : State} {e : QueueEntry} {rest : List QueueEntry}
    (h : s.store.queue = e :: rest) (hready : e.state = .presentable) :
    s.treatFetch = s.answer .done e.bytes := by
  simp only [State.treatFetch, h, if_pos hready]

theorem State.treatFetch_of_not_ready {s : State}
    (h : ∀ e rest, s.store.queue = e :: rest → e.state ≠ .presentable) :
    s.treatFetch = s.answer .empty [] := by
  unfold State.treatFetch
  split
  · next e rest hqueue => rw [if_neg (h e rest hqueue)]
  · rfl

/-- Settles O23, readout by readout; each is answered from the state in which it arrives. -/
theorem readoutsAnswer : Obligations.ReadoutsAnswer := by
  unfold Obligations.ReadoutsAnswer
  intro s
  refine ⟨exec_payStatus, exec_siteStatus, fun hserve => ?_, fun hserve => ?_⟩
  · have hanswer {r : PayRequest} {o : OutcomeCode} {body : List Byte}
        (ht : r.treat s.windowEnded = s.windowEnded.answer o body) :
        s.payRequest r = (s.payReplied r.kind o body).finish := State.payRequest_refused hserve ht
    refine ⟨fun h => ?_, fun p rest x h hx => ?_, fun b hb => ?_, fun b p hb => ⟨fun h => ?_,
      fun x h => ?_⟩, fun e rest h hready => ?_, fun h => ?_⟩ <;> refine congrArg Host.Outcome.next ?_
    · exact hanswer (r := .nextAuthorisation) (State.treatNextAuthorisation_of_empty h)
    · have ht := State.treatNextAuthorisation_of_head (s := s.windowEnded) h hx
      rw [nextAuthorisationBody, optionalField_eq] at ht
      exact hanswer (r := .nextAuthorisation) ht
    · refine hanswer (r := .viewSession b) ?_
      simp only [PayRequest.treat, State.treatViewSession, pedestalOf_of_ge hb]
    · exact hanswer (r := .viewSession b) (State.treatViewSession_of_free hb h)
    · exact hanswer (r := .viewSession b) (State.treatViewSession_of_session hb h)
    · exact hanswer (r := .fetch) (State.treatFetch_of_ready (s := s.windowEnded) h hready)
    · exact hanswer (r := .fetch) (State.treatFetch_of_not_ready (s := s.windowEnded) h)
  · have hanswer {r : SiteRequest} {o : OutcomeCode} {body : List Byte}
        (ht : r.treat s = s.answer o body) :
        s.siteRequest r = (s.siteReplied r.kind o body).finish := State.siteRequest_refused hserve ht
    refine ⟨fun b hb => ?_, fun b p hb => ?_, fun b hb => ?_, fun b f hb => ?_⟩ <;>
      refine congrArg Host.Outcome.next ?_
    · refine hanswer (r := .readAllotment b) ?_
      simp only [SiteRequest.treat, State.treatReadAllotment, pedestalOf_of_ge hb]
    · refine hanswer (r := .readAllotment b) ?_
      simp only [SiteRequest.treat, State.treatReadAllotment, pedestalOf_of_val hb]
    · refine hanswer (r := .readFeeder b) ?_
      simp only [SiteRequest.treat, State.treatReadFeeder, feederOf_of_ge hb]
    · refine hanswer (r := .readFeeder b) ?_
      simp only [SiteRequest.treat, State.treatReadFeeder, feederOf_of_val hb]

/-! ### SETTLE (R120) -/

theorem State.treatSettle_of_unknown {s : State} {n : Word32}
    (h : ∀ e ∈ s.store.queue, e.session ≠ n.toNat) :
    s.treatSettle n = s.answer .unknown (wordBytes 4 n) := by
  unfold State.treatSettle
  split
  · rfl
  · next e rest hqueue =>
    rw [hqueue, List.forall_mem_cons] at h
    rw [if_neg h.1, if_neg]
    simpa using h.2

section
variable {s : State} {n : Word32} {e : QueueEntry} {rest : List QueueEntry}
  (hqueue : s.store.queue = e :: rest)
include hqueue

theorem State.treatSettle_of_not_head (hhead : e.session ≠ n.toNat)
    (hrest : ∃ y ∈ rest, y.session = n.toNat) :
    s.treatSettle n = s.answer .notHead (wordBytes 4 n) := by
  simp only [State.treatSettle, hqueue]
  rw [if_neg hhead, if_pos (by simpa using hrest)]

theorem State.treatSettle_of_writing (hhead : e.session = n.toNat) (hstate : e.state = .writing) :
    s.treatSettle n = s.answer .empty (wordBytes 4 n) := by
  simp only [State.treatSettle, hqueue, if_pos hhead, hstate]

theorem State.treatSettle_of_lost (hhead : e.session = n.toNat) (hstate : e.state = .presentable)
    (hlost : e.notDurable = true) :
    s.treatSettle n = (s.dequeue e.closeSequence).answer .done (wordBytes 4 n) := by
  simp only [State.treatSettle, hqueue, if_pos hhead, hstate, if_pos hlost]

theorem State.treatSettle_of_durable (hhead : e.session = n.toNat) (hstate : e.state = .presentable)
    (hdurable : e.notDurable = false) :
    s.treatSettle n = { state := s.settleHead e, reply := none } := by
  simp only [State.treatSettle, hqueue, if_pos hhead, hstate, hdurable, Bool.false_eq_true, if_false]

theorem State.dequeue_of_head : s.dequeue e.closeSequence =
    { s with store := { s.store with queue := rest } } := by
  rw [State.dequeue, hqueue, dropNamed_head _ _ _ rfl]

theorem State.settleHead_of_head : s.settleHead e = { s with store := { s.store with
    queue := { e with state := .settling } :: rest
    firstClass := s.store.firstClass ++ [.settledMark e.closeSequence] } } := by
  rw [State.settleHead, State.updateQueued, hqueue, updateNamed_head _ _ _ _ rfl]
  rfl

end

/-- R121, R151: a served payment request whose reply is deferred, and whose treatment leaves the sessions,
the allotment and the loop entries alone. -/
theorem State.payRequest_deferred {s t : State} {r : PayRequest} (h : s.payServes = true)
    (ht : r.treat s.windowEnded = { state := t.windowEnded, reply := none })
    (hpay : t.pay = s.pay) (hslots : t.account.slots = s.account.slots) (hallot : t.allot = s.allot)
    (hentries : t.loop.entries = s.loop.entries) : s.payRequest r = t.payWorking.finish := by
  obtain ⟨hrun, htakes, hpark⟩ := State.payServes_split h
  have hgate : (fun u : State => u.gate r.isStatus r.treat) s.windowEnded
      = { state := t.windowEnded, reply := none } :=
    (State.gate_of_serves (s := s.windowEnded) _ hpark).trans ht
  rw [State.payRequest, State.event_of_running hrun, State.payArrive_deferred htakes hgate, ← hpay]
  exact congrArg State.finish (recomputeAfter_of_same hslots hallot hentries)

/-- Settles O33, by the place of the number in the queue and then by the head's state. -/
theorem settleFollowsItsTable : Obligations.SettleFollowsItsTable := by
  unfold Obligations.SettleFollowsItsTable
  intro s n hserve echo
  have hanswer {o : OutcomeCode} (ht : s.windowEnded.treatSettle n = s.windowEnded.answer o echo) :
      exec (.settle n) s = .next (s.payReplied 0x08 o echo).finish :=
    congrArg Host.Outcome.next (State.payRequest_refused (r := .settle n) hserve ht)
  refine ⟨fun h => hanswer (State.treatSettle_of_unknown (s := s.windowEnded) h),
    fun e rest hqueue => ?_⟩
  have hqueue' : s.windowEnded.store.queue = e :: rest := hqueue
  refine ⟨fun hhead hrest => hanswer (State.treatSettle_of_not_head hqueue' hhead hrest),
    fun hhead => ⟨fun hstate => hanswer (State.treatSettle_of_writing hqueue' hhead hstate),
      fun hstate hlost => ?_, fun hstate hdurable => ?_⟩⟩
  · have ht := State.treatSettle_of_lost hqueue' hhead hstate hlost
    rw [State.dequeue_of_head hqueue'] at ht
    exact congrArg Host.Outcome.next
      (State.payRequest_quiet (r := .settle n) hserve ht rfl rfl rfl)
  · have ht := State.treatSettle_of_durable hqueue' hhead hstate hdurable
    rw [State.settleHead_of_head hqueue'] at ht
    exact congrArg Host.Outcome.next
      (State.payRequest_deferred (r := .settle n) hserve ht rfl rfl rfl rfl)

/-! ### SAVE SETTINGS (R173) -/

/-- R164, R173: a served site request whose reply is deferred. -/
theorem State.siteRequest_deferred {s t : State} {r : SiteRequest} (h : s.siteServes = true)
    (ht : r.treat s = { state := t, reply := none }) (hsite : t.site = s.site) :
    s.siteRequest r = t.siteWorking.finish := by
  obtain ⟨hrun, htakes, hpark⟩ := State.siteServes_split h
  have hgate : (fun u : State => u.gate r.isStatus r.treat) s = { state := t, reply := none } :=
    (State.gate_of_serves _ hpark).trans ht
  rw [State.siteRequest, State.quiet_of_running hrun, State.siteArrive_deferred htakes hgate, ← hsite]
  rfl

/-- Settles O41: the copy is taken as the request is treated, and the reply is deferred. -/
theorem saveSettingsQueuesACopy : Obligations.SaveSettingsQueuesACopy := by
  unfold Obligations.SaveSettingsQueuesACopy
  intro s hserve
  refine ⟨s.settings, fun p => cell_mapCells _ _ p, rfl, fun f => cell_mapCells _ _ (Feeder.idx f), rfl,
    rfl, rfl, fun i => cell_mapCells _ _ i, fun i => cell_mapCells _ _ i, rfl, ?_⟩
  exact congrArg Host.Outcome.next
    (State.siteRequest_deferred (r := .saveSettings) hserve rfl rfl)

end Sys2Proof.Machine
end

section
/-! SUPPORT. Claims (R116): the slot that a record claims, what the claim and the want of a slot leave of
the Store Controller, and the theorem of the joining records (O32). -/

namespace Sys2Proof.Machine
open Sys2Proof

/-! ### The slots in their order of preference -/

theorem State.lowest_of_least {s : State} {x : SlotState} {i : RecordSlot} (hi : s.slotState i = x)
    (hleast : ∀ j, j < i → s.slotState j ≠ x) : s.lowest x = some i := by
  rw [State.lowest, recordSlots_eq, List.find?_eq_some_iff_getElem]
  refine ⟨by simpa using hi, i.val, by simp, by simp, fun j hj => ?_⟩
  simpa using hleast ⟨j, hj.trans i.isLt⟩ hj

theorem State.lowest_of_none {s : State} {x : SlotState} (h : ∀ j, s.slotState j ≠ x) :
    s.lowest x = none := by
  rw [State.lowest, List.find?_eq_none]
  simpa using fun j _ => h j

theorem State.erasing_eq_some_iff {s : State} {i : RecordSlot} :
    s.erasing = some i ↔ ∃ left, s.store.flight = some { op := .erase i, left := left } := by
  unfold State.erasing
  split
  · next k left h => simp [h]
  · next h =>
    refine iff_of_false nofun ?_
    rintro ⟨left, hflight⟩
    exact h i left hflight

theorem State.claimant_eq_none_iff {s : State} {i : RecordSlot} :
    s.claimant i = none ↔ ∀ e ∈ s.store.queue, e.state = .writing → e.slot ≠ some i := by
  simp [State.claimant]

theorem State.erasingFree_of_unclaimed {s : State} {i : RecordSlot} (h : s.erasing = some i)
    (hfree : s.claimant i = none) : s.erasingFree = some i := by
  simp [State.erasingFree, h, hfree]

/-- R116: no ERASING slot is to be claimed where none is in flight, or a record has claimed it. -/
theorem State.erasingFree_eq_none {s : State} (h : ∀ i, s.erasing = some i → s.claimant i ≠ none) :
    s.erasingFree = none := by
  unfold State.erasingFree
  split
  · next i hi => simp [h i hi]
  · rfl

section
variable {s : State} (hfree : s.lowest .free = none)
include hfree

theorem State.chooseSlot_of_erasing {i : RecordSlot} (h : s.erasingFree = some i) :
    s.chooseSlot = some { slot := i, eraseFirst := false } := by
  simp only [State.chooseSlot, hfree, h]

variable (herasing : s.erasingFree = none)
include herasing

theorem State.chooseSlot_of_marked {i : RecordSlot} (h : s.lowest .marked = some i) :
    s.chooseSlot = some { slot := i, eraseFirst := true } := by
  simp only [State.chooseSlot, hfree, herasing, h]

theorem State.chooseSlot_of_none (h : s.lowest .marked = none) : s.chooseSlot = none := by
  simp only [State.chooseSlot, hfree, herasing, h]

end

theorem State.chooseSlot_of_free {s : State} {i : RecordSlot} (h : s.lowest .free = some i) :
    s.chooseSlot = some { slot := i, eraseFirst := false } := by
  simp only [State.chooseSlot, h]

/-- R116, R118, R122: the choice of a record whose slot has become BAD, with no erase in flight. -/
theorem State.chooseSlot_of_bad {s t : State} {i : RecordSlot}
    (hbad : ∀ k, t.slotState k = if k = i then .bad else s.slotState k) (hidle : t.erasing = none) :
    (∀ j : RecordSlot, j ≠ i → s.slotState j = .free →
      (∀ k, k < j → k ≠ i → s.slotState k ≠ .free) →
      t.chooseSlot = some { slot := j, eraseFirst := false })
    ∧ ((∀ k, k ≠ i → s.slotState k ≠ .free) →
      (∀ j : RecordSlot, j ≠ i → s.slotState j = .marked →
        (∀ k, k < j → k ≠ i → s.slotState k ≠ .marked) →
        t.chooseSlot = some { slot := j, eraseFirst := true })
      ∧ ((∀ k, k ≠ i → s.slotState k ≠ .marked) → t.chooseSlot = none)) := by
  have hother {x : SlotState} (hx : x ≠ .bad) {k : RecordSlot} (h : k ≠ i → s.slotState k ≠ x) :
      t.slotState k ≠ x := by
    rw [hbad]
    split
    · exact hx.symm
    · next hk => exact h hk
  have hlowest {x : SlotState} (hx : x ≠ .bad) {j : RecordSlot} (hj : j ≠ i) (h : s.slotState j = x)
      (hleast : ∀ k, k < j → k ≠ i → s.slotState k ≠ x) : t.lowest x = some j :=
    State.lowest_of_least (by rw [hbad, if_neg hj, h]) fun k hk => hother hx (hleast k hk)
  have herasing : t.erasingFree = none :=
    State.erasingFree_eq_none fun k hk => by rw [hidle] at hk; cases hk
  refine ⟨fun j hj h hleast => State.chooseSlot_of_free (hlowest (by decide) hj h hleast),
    fun hfree => ?_⟩
  have hfree' : t.lowest .free = none :=
    State.lowest_of_none fun k => hother (by decide) (hfree k)
  exact ⟨fun j hj h hleast =>
      State.chooseSlot_of_marked hfree' herasing (hlowest (by decide) hj h hleast),
    fun hmarked => State.chooseSlot_of_none hfree' herasing
      (State.lowest_of_none fun k => hother (by decide) (hmarked k))⟩

/-! ### A claim, and the want of a slot -/

section
variable {s : State} {before after : List QueueEntry} {e : QueueEntry}
  (hqueue : s.store.queue = before ++ e :: after)
  (hbefore : ∀ y ∈ before, y.closeSequence ≠ e.closeSequence)
include hqueue hbefore

/-- A change of the record that a close sequence names, as a whole state. -/
theorem State.updateQueued_split (f : QueueEntry → QueueEntry) : s.updateQueued e.closeSequence f =
    { s with store := { s.store with queue := before ++ f e :: after } } := by
  rw [State.updateQueued, hqueue, updateNamed_split f hbefore rfl]

theorem State.dequeue_split : s.dequeue e.closeSequence =
    { s with store := { s.store with queue := before ++ after } } := by
  rw [State.dequeue, hqueue, dropNamed_split hbefore rfl]

/-- R116: a FREE or MARKED slot becomes WRITING, and its erase leaves the work list. -/
theorem State.claimFor_of_choice {c : SlotClaim} (hchoose : s.chooseSlot = some c)
    (hslot : s.slotState c.slot ≠ .erasing) : s.claimFor e.closeSequence =
      some ({ s with store := { s.store with
        slotStates := putCell s.store.slotStates c.slot .writing
        queue := before ++ { e with slot := some c.slot, eraseFirst := c.eraseFirst } :: after
        secondClass := s.store.secondClass.filter fun w => decide (w ≠ .erase c.slot) } }, c) := by
  have htake : (s.takeSlot c).store.queue = before ++ e :: after := by rw [State.takeSlot_queue, hqueue]
  simp only [State.claimFor, hchoose, State.updateQueued_split htake hbefore]
  rw [State.takeSlot, if_neg hslot]
  rfl

/-- R116: an ERASING slot stays so. -/
theorem State.claimFor_of_erasing {c : SlotClaim} (hchoose : s.chooseSlot = some c)
    (hslot : s.slotState c.slot = .erasing) : s.claimFor e.closeSequence =
      some ({ s with store := { s.store with
        queue := before ++ { e with slot := some c.slot, eraseFirst := c.eraseFirst } :: after } }, c) := by
  have htake : (s.takeSlot c).store.queue = before ++ e :: after := by rw [State.takeSlot_queue, hqueue]
  simp only [State.claimFor, hchoose, State.updateQueued_split htake hbefore]
  rw [State.takeSlot, if_pos hslot]

/-- R116, R118: a record without a verified copy. -/
theorem State.endNotDurable_split : s.endNotDurable e.closeSequence =
    ({ s with store := { s.store with
      queue := before ++ { e with
        state := .presentable, notDurable := true, slot := none, eraseFirst := false } :: after } } :
      State).raiseStoreFault := by
  rw [State.endNotDurable, State.updateQueued_split hqueue hbefore]

end

theorem State.claimFor_of_none {s : State} (h : s.chooseSlot = none) (n : Nat) :
    s.claimFor n = none := by
  simp only [State.claimFor, h]

/-! ### The theorem -/

theorem State.slotState_putCell {s t : State} {i : RecordSlot} {x : SlotState}
    (h : t.store.slotStates = putCell s.store.slotStates i x) (k : RecordSlot) :
    t.slotState k = if k = i then x else s.slotState k := by
  rw [State.slotState, h, cell_putCell]
  rfl

/-- R112, R116: a joining record that claims a FREE or MARKED slot. -/
theorem State.enqueueRecord_claims {s : State} {r : SettlementRecord} {c : SlotClaim}
    (hnew : ∀ e ∈ s.store.queue, e.closeSequence ≠ r.closeSequence)
    (hchoose : (s.joinQueue r).chooseSlot = some c) (hslot : s.slotState c.slot ≠ .erasing) :
    (s.enqueueRecord r).store = { s.store with
      slotStates := putCell s.store.slotStates c.slot .writing
      queue := s.store.queue ++
        [{ joiningEntry r with slot := some c.slot, eraseFirst := c.eraseFirst }]
      firstClass := s.store.firstClass ++ [.recordWrite r.closeSequence]
      secondClass := s.store.secondClass.filter fun w => decide (w ≠ .erase c.slot) } := by
  have hclaim := State.claimFor_of_choice (s.joinQueue_queue r) hnew hchoose hslot
  have hname : (joiningEntry r).closeSequence = r.closeSequence := rfl
  rw [hname] at hclaim
  rw [State.enqueueRecord_eq, hclaim]
  rfl

/-- Settles O32, by the slot that the joining record chooses. -/
theorem recordsClaimSlots : Obligations.RecordsClaimSlots := by
  unfold Obligations.RecordsClaimSlots
  intro s r hqueued t entry erasing claimed
  have hnew : ∀ e ∈ s.store.queue, e.closeSequence ≠ r.closeSequence := by
    simpa [State.queued] using hqueued
  have hclaimed (i : RecordSlot) : (s.joinQueue r).claimant i = none ↔ ¬ claimed i := by
    rw [State.claimant_eq_none_iff, State.joinQueue_queue]
    constructor
    · rintro h ⟨e, he, hstate, hslot⟩
      exact h e (List.mem_append_left _ he) hstate hslot
    · intro h e he hstate hslot
      obtain he | he := List.mem_append.mp he
      · exact h ⟨e, he, hstate, hslot⟩
      · rw [List.mem_singleton.mp he] at hslot
        cases hslot
  have hstates {i : RecordSlot} {x : SlotState}
      (h : t.store.slotStates = putCell s.store.slotStates i x) :
      t.slotState i = x ∧ ∀ j, j ≠ i → t.slotState j = s.slotState j :=
    ⟨(State.slotState_putCell h i).trans (if_pos rfl),
      fun j hj => (State.slotState_putCell h j).trans (if_neg hj)⟩
  refine ⟨fun i hi hleast => ?_, fun hfree => ?_⟩
  · have hchoose := State.chooseSlot_of_free (State.lowest_of_least (s := s.joinQueue r) hi hleast)
    have hstore := State.enqueueRecord_claims hnew hchoose (by rw [hi]; exact nofun)
    obtain ⟨hwriting, hothers⟩ := hstates (congrArg Store.slotStates hstore)
    exact ⟨hwriting, congrArg Store.queue hstore, congrArg Store.firstClass hstore, hothers⟩
  have hfree' : (s.joinQueue r).lowest .free = none := State.lowest_of_none hfree
  refine ⟨fun i herasing hunclaimed hstate => ?_, fun hbusy => ?_⟩
  · have hchoose := State.chooseSlot_of_erasing hfree' (State.erasingFree_of_unclaimed
      (State.erasing_eq_some_iff.mpr herasing) ((hclaimed i).mpr hunclaimed))
    have hclaim := State.claimFor_of_erasing (s.joinQueue_queue r) hnew hchoose hstate
    have hname : (joiningEntry r).closeSequence = r.closeSequence := rfl
    rw [hname] at hclaim
    show (s.enqueueRecord r).store = _
    rw [State.enqueueRecord_eq, hclaim]
    rfl
  have herasing' : (s.joinQueue r).erasingFree = none := State.erasingFree_eq_none fun i hi hnone =>
    (hclaimed i).mp hnone (hbusy i (State.erasing_eq_some_iff.mp hi))
  refine ⟨fun i hi hleast => ?_, fun hmarked => ?_⟩
  · have hchoose := State.chooseSlot_of_marked hfree' herasing'
      (State.lowest_of_least (s := s.joinQueue r) hi hleast)
    have hstore := State.enqueueRecord_claims hnew hchoose (by rw [hi]; exact nofun)
    obtain ⟨hwriting, hothers⟩ := hstates (congrArg Store.slotStates hstore)
    exact ⟨hwriting, congrArg Store.queue hstore, congrArg Store.firstClass hstore,
      congrArg Store.secondClass hstore, hothers⟩
  · have hnone := State.claimFor_of_none (State.chooseSlot_of_none hfree' herasing'
      (State.lowest_of_none (s := s.joinQueue r) hmarked)) r.closeSequence
    have ht : t = (s.joinQueue r).endNotDurable (joiningEntry r).closeSequence := by
      show s.enqueueRecord r = _
      rw [State.enqueueRecord_eq, hnone]
      rfl
    rw [ht, State.endNotDurable_split (s.joinQueue_queue r) hnew]
    exact ⟨rfl, rfl, rfl, cell_setPending_self s.pay.notices 4 true,
      cell_setPending_self s.site.notices 3 true⟩

end Sys2Proof.Machine
end

section
/-! SUPPORT. The ends of store operations: the event of an end, the ends of a record write's attempt
(O56). -/

namespace Sys2Proof.Machine
open Sys2Proof

/-! ### The event of an end -/

/-- R29: the end of a store operation is no cause of a recompute. -/
theorem recomputeAfter_storeOnly {s t : State} {n : Nat} (h : t.storeOnly (s.advance n)) :
    recomputeAfter s t = t := by
  refine recomputeAfter_advance n (fun p => ?_) (fun p => ?_) (congrArg Loop.entries h.loop)
    fun f => ?_
  · rw [State.countsForPower_congr (State.session_congr h.slots p), State.advance_countsForPower]
  · rw [State.entry_congr (congrArg Allotment.entries h.allot), State.advance_entry]
  · rw [State.feeder_congr (congrArg Allotment.feeders h.allot), State.advance_feeder]

/-- The end of an operation, taken at its due moment. -/
theorem State.event_of_end {s : State} {n : Nat} {f : State → State} (hrun : s.resetAsserted = false)
    (h : (f (s.advance n)).storeOnly (s.advance n)) :
    (s.event fun t => f (t.advanceTo n)) = (f (s.advance n)).finish := by
  rw [State.event_of_running hrun]
  exact congrArg State.finish (recomputeAfter_storeOnly h)

section
variable {s : State} {n left : Nat} {i : RecordSlot} (hrun : s.resetAsserted = false)
include hrun

theorem exec_recordWriteEnd {eraseFirst retry : Bool} {v : WriteVerify}
    (hflight : s.store.flight = some { op := .recordWrite n i eraseFirst retry, left := left })
    (hend : canEndSo eraseFirst v = true) : exec (.recordWriteEnd v) s
      = .next ((s.advance (attemptTime left v)).endWrite n i retry v).finish := by
  show execRecordWriteEnd v s = _
  simp only [execRecordWriteEnd, hflight, if_pos hend]
  exact congrArg Host.Outcome.next
    (State.event_of_end (f := fun t => t.endWrite n i retry v) hrun (State.endWrite_storeOnly _ n i retry v))

theorem exec_settledMarkEnd
    (hflight : s.store.flight = some { op := .settledMark n i, left := left }) (v : Verify Bool) :
    exec (.settledMarkEnd v) s = .next ((s.advance left).endMark n i v).finish := by
  show execSettledMarkEnd v s = _
  simp only [execSettledMarkEnd, hflight]
  exact congrArg Host.Outcome.next
    (State.event_of_end (f := fun t => t.endMark n i v) hrun (State.endMark_storeOnly _ n i v))

theorem exec_eraseEnd (hflight : s.store.flight = some { op := .erase i, left := left })
    (v : Verify SlotCells) : exec (.eraseEnd v) s = .next ((s.advance left).endErase i v).finish := by
  show execEraseEnd v s = _
  simp only [execEraseEnd, hflight]
  exact congrArg Host.Outcome.next
    (State.event_of_end (f := fun t => t.endErase i v) hrun (State.endErase_storeOnly _ i v))

theorem exec_reservationWriteEnd {l : Nat}
    (hflight : s.store.flight = some { op := .reservation l, left := left }) (v : Verify (Area Nat)) :
    exec (.reservationWriteEnd v) s = .next ((s.advance left).endReservation l v).finish := by
  show execReservationWriteEnd v s = _
  simp only [execReservationWriteEnd, hflight]
  exact congrArg Host.Outcome.next
    (State.event_of_end (f := fun t => t.endReservation l v) hrun (State.endReservation_storeOnly _ l v))

theorem exec_settingsSaveEnd {c : Settings}
    (hflight : s.store.flight = some { op := .save c, left := left }) (v : Verify (Area Settings)) :
    exec (.settingsSaveEnd v) s = .next ((s.advance left).endSave c v).finish := by
  show execSettingsSaveEnd v s = _
  simp only [execSettingsSaveEnd, hflight]
  exact congrArg Host.Outcome.next
    (State.event_of_end (f := fun t => t.endSave c v) hrun (State.endSave_storeOnly _ c v))

end

/-! ### A record write's attempt (R116 to R118) -/

/-- A slot whose operation failed, with what the failure left in it (R118, R122). -/
def State.spoilSlot (s : State) (i : RecordSlot) (cells : SlotCells) : State :=
  (s.putSlotCells i cells).putSlotState i .bad

theorem State.spoilSlot_slotState (s : State) (i : RecordSlot) (cells : SlotCells) (k : RecordSlot) :
    (s.spoilSlot i cells).slotState k = if k = i then .bad else s.slotState k :=
  State.slotState_putCell rfl k

section
variable {s : State} {before after : List QueueEntry} {e : QueueEntry} {i : RecordSlot}
  (hqueue : s.store.queue = before ++ e :: after)
  (hbefore : ∀ y ∈ before, y.closeSequence ≠ e.closeSequence)
include hqueue hbefore

theorem State.writePassed_split : s.writePassed e.closeSequence i = { s with store := { s.store with
    array := { s.store.array with slots := putCell s.store.array.slots i (writtenCells e) }
    slotStates := putCell s.store.slotStates i .held
    queue := before ++ { e with state := .presentable, eraseFirst := false } :: after
    flight := none } } := by
  have hnamed : s.queued e.closeSequence = some e := State.queued_of_split hqueue rfl hbefore
  simp only [State.writePassed, hnamed]
  rw [State.updateQueued_split (s := (s.putSlotCells i _).putSlotState i .held) hqueue hbefore]
  rfl

/-- R118: a first failure that can claim retries at once. -/
theorem State.writeFailed_retries {cells : SlotCells} {c : SlotClaim}
    (hchoose : (s.spoilSlot i cells).chooseSlot = some c)
    (hslot : (s.spoilSlot i cells).slotState c.slot ≠ .erasing) :
    s.writeFailed e.closeSequence i false cells = { s with store := { s.store with
      array := { s.store.array with slots := putCell s.store.array.slots i cells }
      slotStates := putCell (putCell s.store.slotStates i .bad) c.slot .writing
      queue := before ++ { e with slot := some c.slot, eraseFirst := c.eraseFirst } :: after
      secondClass := s.store.secondClass.filter fun w => decide (w ≠ .erase c.slot)
      flight := some { op := .recordWrite e.closeSequence c.slot c.eraseFirst true,
                       left := writeTime c.eraseFirst } } } := by
  have hclaim := State.claimFor_of_choice (s := s.spoilSlot i cells) hqueue hbefore hchoose hslot
  unfold State.spoilSlot at hclaim
  simp only [State.writeFailed, hclaim]
  rfl

/-- R118: the retry, or a first failure that cannot claim, leaves the record without a verified copy. -/
theorem State.writeFailed_ends {cells : SlotCells} {retry : Bool}
    (h : retry = true ∨ (s.spoilSlot i cells).chooseSlot = none) :
    s.writeFailed e.closeSequence i retry cells = ({ s with store := { s.store with
      array := { s.store.array with slots := putCell s.store.array.slots i cells }
      slotStates := putCell s.store.slotStates i .bad
      queue := before ++ { e with
        state := .presentable, notDurable := true, slot := none, eraseFirst := false } :: after
      flight := none } } : State).raiseStoreFault := by
  have hlost : s.writeFailed e.closeSequence i retry cells
      = ((s.spoilSlot i cells).endNotDurable e.closeSequence).putFlight none := by
    cases retry with
    | true => rfl
    | false =>
      have hnone := State.claimFor_of_none (h.resolve_left nofun) e.closeSequence
      unfold State.spoilSlot at hnone
      simp only [State.writeFailed, hnone]
      rfl
  rw [hlost, State.endNotDurable_split (s := s.spoilSlot i cells) hqueue hbefore]
  rfl

end

/-- R117, R118: the failures of an attempt, with the time to their end and what they leave in the slot. -/
theorem endWrite_of_failure {eraseFirst : Bool} {v : WriteVerify} {held : SlotCells} {left passed : Nat}
    (h : (∃ c takes, v = .fail c takes ∧ passed = left + 1
        ∧ held = if takes then { c with markBlank := false } else c)
      ∨ eraseFirst = true ∧ v = .eraseFail held ∧ passed = left - 6) :
    canEndSo eraseFirst v = true ∧ attemptTime left v = passed
      ∧ ∀ (s : State) n i retry, s.endWrite n i retry v = s.writeFailed n i retry held := by
  obtain ⟨c, takes, rfl, rfl, rfl⟩ | ⟨rfl, rfl, rfl⟩ := h
  · exact ⟨rfl, rfl, fun _ _ _ _ => rfl⟩
  · exact ⟨rfl, rfl, fun _ _ _ _ => rfl⟩

/-- Settles O56: a pass, or a failure whose slot is BAD and whose record chooses again or not. -/
theorem recordWritesEnd : Obligations.RecordWritesEnd := by
  unfold Obligations.RecordWritesEnd
  intro s n left i eraseFirst retry e before after hrun hqueue hname hbefore hflight array
  subst hname
  refine ⟨?_, fun v held passed hfail => ?_⟩
  · rw [exec_recordWriteEnd (v := .pass) hrun hflight rfl]
    exact congrArg (fun t => Host.Outcome.next (State.finish t))
      (State.writePassed_split (s := s.advance left) hqueue hbefore)
  obtain ⟨hend, htime, hfailed⟩ := endWrite_of_failure hfail
  rw [exec_recordWriteEnd hrun hflight hend, htime, hfailed]
  have hidle : ((s.advance passed).spoilSlot i held).erasing = none := by
    have h := State.advance_flight hflight passed
    rw [← Option.not_isSome_iff_eq_none, Option.isSome_iff_exists]
    rintro ⟨k, hk⟩
    obtain ⟨left', hk⟩ := State.erasing_eq_some_iff.mp hk
    cases h.symm.trans hk
  obtain ⟨hfree, hnofree⟩ := State.chooseSlot_of_bad (s := s)
    ((s.advance passed).spoilSlot_slotState i held) hidle
  have hretries {c : SlotClaim} (hc : c.slot ≠ i) (hstate : s.slotState c.slot ≠ .erasing)
      (hchoose : ((s.advance passed).spoilSlot i held).chooseSlot = some c) :=
    State.writeFailed_retries (s := s.advance passed) hqueue hbefore hchoose
      (by rw [State.spoilSlot_slotState, if_neg hc]; exact hstate)
  refine ⟨fun hfirst => ?_, fun hlast => ?_⟩
  · subst hfirst
    refine ⟨fun j hj hstate hleast => ?_, fun j hnone hj hstate hleast => ?_⟩
    · exact congrArg (fun t => Host.Outcome.next (State.finish t))
        (hretries (c := ⟨j, false⟩) hj (by rw [hstate]; exact nofun) (hfree j hj hstate hleast))
    · exact congrArg (fun t => Host.Outcome.next (State.finish t))
        (hretries (c := ⟨j, true⟩) hj (by rw [hstate]; exact nofun)
          ((hnofree hnone).1 j hj hstate hleast))
  · refine congrArg (fun t => Host.Outcome.next (State.finish t))
      (State.writeFailed_ends (s := s.advance passed) hqueue hbefore (hlast.imp_right fun h => ?_))
    exact (hnofree fun k hk => (h k hk).1).2 fun k hk => (h k hk).2

end Sys2Proof.Machine
end

section
/-! SUPPORT. The ends of the other store operations: of a reservation write and a settings save (O58),
and of a settled mark and an erase (O57). -/

namespace Sys2Proof.Machine
open Sys2Proof

/-! ### The deferred replies -/

theorem State.payDeferred_of_working {s : State} {unread : Bool} (h : s.pay.state = .working unread)
    (kind : Byte) (r : Reply) : s.payDeferred kind r = s.payReply kind unread r := by
  simp only [State.payDeferred, h]

theorem State.siteDeferred_of_working {s : State} {unread : Bool} (h : s.site.state = .working unread)
    (kind : Byte) (r : Reply) : s.siteDeferred kind r = s.siteReply kind unread r := by
  simp only [State.siteDeferred, h]

/-! ### Reservations and saves (R127, R128, R173) -/

section
variable {s : State} {unread : Bool} (hsite : s.site.state = .working unread) (c : Settings)
include hsite

theorem State.endSave_pass : s.endSave c .pass =
    ((s.putSettingsArea { contents := .good c, singles := 0 }).putFlight none).siteReply saveKind unread
      { outcome := .done, body := [] } :=
  State.siteDeferred_of_working (s := (s.putSettingsArea { contents := .good c, singles := 0 }).putFlight
    none) hsite _ _

theorem State.endSave_fail (area : Area Settings) : s.endSave c (.fail area) =
    ((s.putSettingsArea area).putFlight none).raiseStoreFault.siteReply saveKind unread
      { outcome := .fault, body := [] } :=
  State.siteDeferred_of_working (s := ((s.putSettingsArea area).putFlight none).raiseStoreFault) hsite _ _

end

/-- Settles O58: each end sets its cell of the array, and a save's answers the waiting request. -/
theorem reservationsAndSavesEnd : Obligations.ReservationsAndSavesEnd := by
  unfold Obligations.ReservationsAndSavesEnd
  intro s left hrun
  refine ⟨fun l hflight => ⟨?_, fun area => ?_⟩, fun c unread hflight hsite => ⟨?_, fun area => ?_⟩⟩
  · exact exec_reservationWriteEnd hrun hflight .pass
  · exact exec_reservationWriteEnd hrun hflight (.fail area)
  · rw [exec_settingsSaveEnd hrun hflight]
    exact congrArg (fun t => Host.Outcome.next (State.finish t))
      (State.endSave_pass (s := s.advance left) hsite c)
  · rw [exec_settingsSaveEnd hrun hflight]
    exact congrArg (fun t => Host.Outcome.next (State.finish t))
      (State.endSave_fail (s := s.advance left) hsite c area)

/-! ### A settled mark (R121) -/

section
variable {s : State} {before after : List QueueEntry} {e : QueueEntry} {unread : Bool}
  (hqueue : s.store.queue = before ++ e :: after)
  (hbefore : ∀ y ∈ before, y.closeSequence ≠ e.closeSequence)

theorem State.settleEcho_split (hqueue : s.store.queue = before ++ e :: after)
    (hbefore : ∀ y ∈ before, y.closeSequence ≠ e.closeSequence) :
    s.settleEcho e.closeSequence = bytesOf 4 e.session := by
  simp only [State.settleEcho, State.queued_of_split hqueue rfl hbefore]

variable (hpay : s.pay.state = .working unread) (i : RecordSlot)
include hqueue hbefore hpay

theorem State.endMark_pass : s.endMark e.closeSequence i .pass =
    ({ s with store := { s.store with
      array := { s.store.array with
        slots := putCell s.store.array.slots i { s.slotCells i with markBlank := false } }
      slotStates := putCell s.store.slotStates i .marked
      queue := before ++ after
      secondClass := s.store.secondClass ++ [.erase i]
      flight := none } } : State).payReply settleKind unread
        { outcome := .done, body := bytesOf 4 e.session } := by
  unfold State.endMark
  rw [State.settleEcho_split hqueue hbefore]
  dsimp only
  rw [State.dequeue_split (s := (s.putSlotCells i _).putSlotState i .marked) hqueue hbefore]
  exact State.payDeferred_of_working (by exact hpay) _ _

theorem State.endMark_fail (blank : Bool) : s.endMark e.closeSequence i (.fail blank) =
    ({ s with store := { s.store with
      array := { s.store.array with
        slots := putCell s.store.array.slots i { s.slotCells i with markBlank := blank } }
      slotStates := putCell s.store.slotStates i .bad
      queue := before ++ { e with state := .presentable, notDurable := true, slot := none } :: after
      flight := none } } : State).raiseStoreFault.payReply settleKind unread
        { outcome := .fault, body := bytesOf 4 e.session } := by
  unfold State.endMark
  rw [State.settleEcho_split hqueue hbefore]
  dsimp only
  rw [State.updateQueued_split (s := (s.putSlotCells i _).putSlotState i .bad) hqueue hbefore]
  exact State.payDeferred_of_working (by exact hpay) _ _

end

/-! ### An erase (R116, R122) -/

theorem State.claimant_of_split {s : State} {before after : List QueueEntry} {e : QueueEntry}
    {i : RecordSlot} (hqueue : s.store.queue = before ++ e :: after) (hstate : e.state = .writing)
    (hslot : e.slot = some i) (hbefore : ∀ y ∈ before, y.state = .writing → y.slot ≠ some i) :
    s.claimant i = some e := by
  rw [State.claimant, hqueue, List.find?_eq_some_iff_append]
  refine ⟨by simp [hstate, hslot], before, after, rfl, fun y hy => ?_⟩
  simpa [← imp_iff_not_or] using hbefore y hy

/-- R122: the state of a slot whose erase passed, by whether a record has claimed it. -/
theorem State.erasePassed_eq {s : State} {i : RecordSlot} {now : SlotState}
    (hclaimed : (∃ e ∈ s.store.queue, e.state = .writing ∧ e.slot = some i) → now = .writing)
    (hfree : (∀ e ∈ s.store.queue, e.state = .writing → e.slot ≠ some i) → now = .free) :
    s.erasePassed i = ((s.putSlotCells i SlotCells.blank).putSlotState i now).putFlight none := by
  unfold State.erasePassed
  cases h : s.claimant i with
  | none => rw [hfree (State.claimant_eq_none_iff.mp h)]; rfl
  | some e =>
    have hclaims : e.state = .writing ∧ e.slot = some i := by simpa using List.find?_some h
    rw [hclaimed ⟨e, List.mem_of_find?_eq_some h, hclaims⟩]
    rfl

theorem State.raiseStoreFault_raiseStoreFault (s : State) :
    s.raiseStoreFault.raiseStoreFault = s.raiseStoreFault := by
  simp [State.raiseStoreFault, State.raisePay, State.raiseSite, setPending]

/-- R122: what the failure of an erase leaves, before any record claims again. -/
def State.spoilErase (s : State) (i : RecordSlot) (cells : SlotCells) : State :=
  ((s.spoilSlot i cells).putFlight none).raiseStoreFault

theorem State.eraseFailed_unclaimed {s : State} {i : RecordSlot} (h : s.claimant i = none)
    (cells : SlotCells) : s.eraseFailed i cells = s.spoilErase i cells := by
  simp only [State.eraseFailed, h]
  rfl

theorem State.eraseFailed_claimed {s : State} {i : RecordSlot} {e : QueueEntry}
    (h : s.claimant i = some e) (cells : SlotCells) :
    s.eraseFailed i cells = (s.spoilErase i cells).claimAgain e.closeSequence := by
  simp only [State.eraseFailed, h]
  rfl

section
variable {s : State} {before after : List QueueEntry} {e : QueueEntry}
  (hqueue : s.store.queue = before ++ e :: after)
  (hbefore : ∀ y ∈ before, y.closeSequence ≠ e.closeSequence)
include hqueue hbefore

theorem State.claimAgain_of_choice {c : SlotClaim} (hchoose : s.chooseSlot = some c)
    (hslot : s.slotState c.slot ≠ .erasing) : s.claimAgain e.closeSequence =
      { s with store := { s.store with
        slotStates := putCell s.store.slotStates c.slot .writing
        queue := before ++ { e with slot := some c.slot, eraseFirst := c.eraseFirst } :: after
        secondClass := s.store.secondClass.filter fun w => decide (w ≠ .erase c.slot) } } := by
  simp only [State.claimAgain, State.claimFor_of_choice hqueue hbefore hchoose hslot]

theorem State.claimAgain_of_none (hchoose : s.chooseSlot = none) : s.claimAgain e.closeSequence =
    ({ s with store := { s.store with
      queue := before ++ { e with
        state := .presentable, notDurable := true, slot := none, eraseFirst := false } :: after
      firstClass := s.store.firstClass.filter fun w =>
        decide (w ≠ .recordWrite e.closeSequence) } } : State).raiseStoreFault := by
  simp only [State.claimAgain, State.claimFor_of_none hchoose, State.endNotDurable_split hqueue hbefore]
  rfl

end

/-! ### The theorem -/

/-- Settles O57: a mark by its verify; an erase by its verify and by the record that had claimed it. -/
theorem marksAndErasesEnd : Obligations.MarksAndErasesEnd := by
  unfold Obligations.MarksAndErasesEnd
  intro s n left i hrun
  refine ⟨fun e before after unread hqueue hname hbefore hpay hflight => ?_, fun hflight =>
    ⟨fun now hclaimed hfree => ?_, fun cells => ⟨fun hunclaimed => ?_,
      fun e before after hqueue hstate hslot hbefore => ?_⟩⟩⟩
  · subst hname
    refine ⟨?_, fun blank => ?_⟩
    · rw [exec_settledMarkEnd hrun hflight]
      exact congrArg (fun t => Host.Outcome.next (State.finish t))
        (State.endMark_pass (s := s.advance left) hqueue hbefore hpay i)
    · rw [exec_settledMarkEnd hrun hflight]
      exact congrArg (fun t => Host.Outcome.next (State.finish t))
        (State.endMark_fail (s := s.advance left) hqueue hbefore hpay i blank)
  · rw [exec_eraseEnd hrun hflight]
    exact congrArg (fun t => Host.Outcome.next (State.finish t))
      (State.erasePassed_eq (s := s.advance left) hclaimed hfree)
  · rw [exec_eraseEnd hrun hflight]
    exact congrArg (fun t => Host.Outcome.next (State.finish t))
      (State.eraseFailed_unclaimed (s := s.advance left) (State.claimant_eq_none_iff.mpr hunclaimed) cells)
  have hclaimant : (s.advance left).claimant i = some e :=
    State.claimant_of_split hqueue hstate hslot fun y hy => (hbefore y hy).2
  have hend {t : State}
      (h : ((s.advance left).spoilErase i cells).claimAgain e.closeSequence = t) :
      exec (.eraseEnd (.fail cells)) s = .next t.finish := by
    rw [exec_eraseEnd hrun hflight, ← h]
    exact congrArg (fun t => Host.Outcome.next (State.finish t))
      (State.eraseFailed_claimed hclaimant cells)
  have hnames : ∀ y ∈ before, y.closeSequence ≠ e.closeSequence := fun y hy => (hbefore y hy).1
  have hbad (k : RecordSlot) : ((s.advance left).spoilErase i cells).slotState k
      = if k = i then .bad else s.slotState k := (s.advance left).spoilSlot_slotState i cells k
  obtain ⟨hfree, hnofree⟩ := State.chooseSlot_of_bad hbad rfl
  have hclaims {c : SlotClaim} (hc : c.slot ≠ i) (hother : s.slotState c.slot ≠ .erasing)
      (hchoose : ((s.advance left).spoilErase i cells).chooseSlot = some c) :=
    hend (State.claimAgain_of_choice (s := (s.advance left).spoilErase i cells) hqueue hnames hchoose
      (by rw [hbad, if_neg hc]; exact hother))
  refine ⟨fun j hj hj' hleast => ?_, fun hnone => ⟨fun j hj hj' hleast => ?_, fun hunmarked => ?_⟩⟩
  · exact hclaims (c := ⟨j, false⟩) hj (by rw [hj']; exact nofun) (hfree j hj hj' hleast)
  · exact hclaims (c := ⟨j, true⟩) hj (by rw [hj']; exact nofun) ((hnofree hnone).1 j hj hj' hleast)
  · refine hend ((State.claimAgain_of_none (s := (s.advance left).spoilErase i cells) hqueue hnames
      ((hnofree hnone).2 hunmarked)).trans ?_)
    exact State.raiseStoreFault_raiseStoreFault { s.advance left with store := _ }

end Sys2Proof.Machine
end

section
/-! SUPPORT. The hardware reset (R113, R184): what RESET_N low keeps from every command, what a cut
operation leaves in the array, and the theorem of the resets (O59). -/

namespace Sys2Proof.Machine
open Sys2Proof

/-! ### While RESET_N is low -/

section
variable {s : State} (hreset : s.resetAsserted = true)
include hreset

theorem State.quiet_of_reset (f : State → State) : s.quiet f = s := if_pos hreset

theorem State.event_of_reset (f : State → State) : s.event f = s := if_pos hreset

theorem State.expiry_of_reset (timer : Option Nat) (f : State → State) : s.expiry timer f = s := by
  cases timer with
  | none => rfl
  | some left => exact State.event_of_reset hreset fun t => f (t.advanceTo left)

theorem State.endExchange_of_reset (p : Pedestal) (lowered : Bool) (f : State → State) :
    s.endExchange p lowered f = s := if_pos hreset

theorem State.payRequest_of_reset (r : PayRequest) : s.payRequest r = s := State.event_of_reset hreset _

theorem State.payRefusal_of_reset (kind : Byte) (o : OutcomeCode) : s.payRefusal kind o = s :=
  State.event_of_reset hreset _

theorem State.siteRequest_of_reset (r : SiteRequest) : s.siteRequest r = s :=
  State.quiet_of_reset hreset _

theorem State.siteRefusal_of_reset (kind : Byte) (o : OutcomeCode) : s.siteRefusal kind o = s :=
  State.quiet_of_reset hreset _

theorem execPayUnknownRequest_of_reset (frame : List Byte) (partByte : Bool) :
    execPayUnknownRequest frame partByte s = .next s := by
  refine congrArg Host.Outcome.next ?_
  split
  · rfl
  · split
    · exact State.quiet_of_reset hreset _
    · split
      · exact State.payRefusal_of_reset hreset _ _
      · exact State.payRefusal_of_reset hreset _ _
      · exact State.payRequest_of_reset hreset _

theorem execSiteUnknownRequest_of_reset (frame : List Byte) (partByte : Bool) :
    execSiteUnknownRequest frame partByte s = .next s := by
  refine congrArg Host.Outcome.next ?_
  split
  · rfl
  · split
    · exact State.siteRefusal_of_reset hreset _ _
    · exact State.siteRefusal_of_reset hreset _ _
    · exact State.siteRequest_of_reset hreset _

/-- R184: while RESET_N is low every command but its rise is without effect. -/
theorem exec_of_reset {c : Instr} (hc : c ≠ .hardwareResetEnd) : exec c s = .next s := by
  cases c with
  | roundStart | restoreEnd | scanEnd =>
    refine congrArg Host.Outcome.next ?_
    split
    · exact State.quiet_of_reset hreset _
    · rfl
  | answerFrameReceived | answerWindowClose =>
    refine congrArg Host.Outcome.next ?_
    split
    · exact State.endExchange_of_reset hreset _ _ _
    · rfl
  | recordWriteEnd =>
    refine congrArg Host.Outcome.next ?_
    split
    · split
      · exact State.event_of_reset hreset _
      · rfl
    · rfl
  | settledMarkEnd | eraseEnd | reservationWriteEnd | settingsSaveEnd =>
    refine congrArg Host.Outcome.next ?_
    split
    · exact State.event_of_reset hreset _
    · rfl
  | authorisationWindowExpiry | stopWindowExpiry | linkLossTimerExpiry | rampTimerExpiry
  | overstayMinuteEnd => exact congrArg Host.Outcome.next (State.expiry_of_reset hreset _ _)
  | temperatureCompletion => exact congrArg Host.Outcome.next (State.event_of_reset hreset _)
  | supplyCompletion | payReadWindow | readWindowOpens | siteReadTransaction =>
    exact congrArg Host.Outcome.next (State.quiet_of_reset hreset _)
  | hardwareResetAssert => exact congrArg Host.Outcome.next (if_pos hreset)
  | hardwareResetEnd => exact absurd rfl hc
  | payUnknownRequest frame partByte => exact execPayUnknownRequest_of_reset hreset frame partByte
  | siteUnknownRequest frame partByte => exact execSiteUnknownRequest_of_reset hreset frame partByte
  | payStatus | nextAuthorisation | authorise | decline | cancel | viewSession | fetch | settle
  | payAcknowledge | paySetLevel =>
    exact congrArg Host.Outcome.next (State.payRequest_of_reset hreset _)
  | siteStatus | setSiteCeiling | setFeeder | setPedestal | setParameters | writeTariffRow
  | bindTariff | setClock | quiesce | resume | readAllotment | readFeeder | saveSettings
  | siteAcknowledge | siteSetLevel =>
    exact congrArg Host.Outcome.next (State.siteRequest_of_reset hreset _)

end

theorem exec_hardwareResetAssert {s : State} (hrun : s.resetAsserted = false) (cut : CutPoint) :
    exec (.hardwareResetAssert cut) s = .next (s.assertReset cut) :=
  congrArg Host.Outcome.next (if_neg (by simp [hrun]))

/-! ### What a cut leaves in the array -/

section
variable {s : State} {cut : CutPoint} {left : Nat}

theorem State.cutArray_of_idle (h : s.store.flight = none) : s.cutArray cut = s.store.array := by
  simp only [State.cutArray, h]

section
variable {n : Nat} {i : RecordSlot} {eraseFirst retry : Bool}
  (hflight : s.store.flight = some { op := .recordWrite n i eraseFirst retry, left := left })
include hflight

theorem State.cutArray_recordWrite {e : QueueEntry} (h : s.queued n = some e) : s.cutArray cut =
    { s.store.array with
      slots := putCell s.store.array.slots i (cutWrite (s.slotCells i) (writtenCells e) cut) } := by
  simp only [State.cutArray, hflight, h]

theorem State.cutArray_recordWrite_of_none (h : s.queued n = none) :
    s.cutArray cut = s.store.array := by
  simp only [State.cutArray, hflight, h]

end

theorem State.cutArray_settledMark {n : Nat} {i : RecordSlot}
    (hflight : s.store.flight = some { op := .settledMark n i, left := left }) : s.cutArray cut =
    { s.store.array with slots := putCell s.store.array.slots i (cutMark (s.slotCells i) cut) } := by
  simp only [State.cutArray, hflight]

theorem State.cutArray_erase {i : RecordSlot}
    (hflight : s.store.flight = some { op := .erase i, left := left }) : s.cutArray cut =
    { s.store.array with slots := putCell s.store.array.slots i (cutErase (s.slotCells i) cut) } := by
  simp only [State.cutArray, hflight]

theorem State.cutArray_reservation {l : Nat}
    (hflight : s.store.flight = some { op := .reservation l, left := left }) : s.cutArray cut =
    { s.store.array with counter := cutArea s.store.array.counter l cut } := by
  simp only [State.cutArray, hflight]

theorem State.cutArray_save {c : Settings}
    (hflight : s.store.flight = some { op := .save c, left := left }) : s.cutArray cut =
    { s.store.array with settings := cutArea s.store.array.settings c cut } := by
  simp only [State.cutArray, hflight]

end

theorem cutMark_of_touched {cut : CutPoint} (h : cut ≠ .untouched) (x : SlotCells) :
    cutMark x cut = { x with markBlank := false } := by
  cases cut with
  | untouched => exact absurd rfl h
  | headerPart | headerBlank | allBlank | marked | complete | garbled => rfl

theorem cutArea_of_touched {α : Type} {cut : CutPoint} (h : cut ≠ .untouched) (x : Area α) (value : α) :
    cutArea x value cut = { contents := if cut = .complete then .good value else .bad, singles := 0 } := by
  cases cut with
  | untouched => exact absurd rfl h
  | headerPart | headerBlank | allBlank | marked | complete | garbled => rfl

/-- A cut before anything was written leaves the array as it was. -/
theorem State.cutArray_untouched (s : State) : s.cutArray .untouched = s.store.array := by
  unfold State.cutArray
  split
  · rfl
  · split
    · split
      · exact congrArg (fun v => { s.store.array with slots := v }) (putCell_cell _ _)
      · rfl
    · exact congrArg (fun v => { s.store.array with slots := v }) (putCell_cell _ _)
    · exact congrArg (fun v => { s.store.array with slots := v }) (putCell_cell _ _)
    · rfl
    · rfl

/-! ### The theorem -/

/-- Settles O59: the array under the existential is the one that the cut point names. -/
theorem resetCutsAndRestarts : Obligations.ResetCutsAndRestarts := by
  unfold Obligations.ResetCutsAndRestarts
  intro s
  refine ⟨rfl, fun hreset c hc => exec_of_reset hreset hc, fun hrun cut =>
    ⟨s.cutArray cut, exec_hardwareResetAssert hrun cut, ?_, fun left =>
      ⟨fun n i eraseFirst retry hflight =>
        ⟨State.cutArray_recordWrite_of_none hflight, fun e he => ?_⟩,
      fun n i hflight hcut => ?_, fun i hflight => ?_, fun l hflight hcut => ?_,
      fun c hflight hcut => ?_⟩⟩⟩
  · rintro (hidle | rfl)
    · exact State.cutArray_of_idle hidle
    · exact s.cutArray_untouched
  · rw [State.cutArray_recordWrite hflight he]
    refine ⟨?_, ?_, ?_, ?_, ?_⟩
    · rintro (rfl | rfl) <;> rfl
    · rintro rfl; rfl
    · rintro rfl; rfl
    · rintro rfl; rfl
    · rintro rfl; rfl
  · rw [State.cutArray_settledMark hflight, cutMark_of_touched hcut]
  · rw [State.cutArray_erase hflight]
    refine ⟨?_, ?_, ?_, ?_⟩
    · rintro (rfl | rfl) <;> rfl
    · rintro rfl; rfl
    · rintro rfl; rfl
    · rintro (rfl | rfl) <;> rfl
  · rw [State.cutArray_reservation hflight, cutArea_of_touched hcut]
  · rw [State.cutArray_save hflight, cutArea_of_touched hcut]

end Sys2Proof.Machine
end

section
/-! SUPPORT. What the moves and the configurations do to the Loop Controller's entries, to LOOP_DE and to
RESET_N (R133, R140 to R142, R167), and the step laws of the links (O15) and of the pins (O16). -/

namespace Sys2Proof.Machine
open Sys2Proof

/-! ### Link health (R140 to R142) -/

/-- How a loop entry changes: an exchange's miss or accepted answer, the report it stores, and the reset of
a pedestal made present or absent (R167). -/
inductive LinkMove (e : LoopEntry) : LoopEntry → Prop
  | same : LinkMove e e
  | misses : LinkMove e e.miss
  | answers : LinkMove e e.good
  | stores (r : Report) (stamp : Word32) :
      LinkMove e { e with latest := some r, latestStamp := some stamp }
  | resets : LinkMove e LoopEntry.reset

/-- R140: the state that a health counter gives agrees with it. -/
theorem LoopEntry.linkSound_linkOf (e : LoopEntry) {health : Nat} (h : health ≤ 255) :
    LoopEntry.linkSound { e with health := health, link := linkOf health, recovery := 0 } := by
  unfold linkOf
  split
  · next hgood => exact ⟨hgood, rfl⟩
  split
  · next hgood hdoubtful => exact ⟨Nat.le_of_not_lt hgood, hdoubtful, rfl⟩
  · next hdoubtful => exact ⟨Nat.le_of_not_lt hdoubtful, h, Nat.zero_lt_succ _⟩

/-- A sound counter is at most 255, whatever the link. -/
theorem LoopEntry.linkSound.health_le {e : LoopEntry} (h : e.linkSound) : e.health ≤ 255 := by
  unfold LoopEntry.linkSound at h
  split at h <;> omega

/-- R142: a miss leaves a LOST link lost and begins its recovery run anew. -/
theorem LoopEntry.linkSound.miss {e : LoopEntry} (h : e.linkSound) : e.miss.linkSound := by
  have hlimit : min (e.health + 8) 255 ≤ 255 := Nat.min_le_right _ _
  unfold LoopEntry.miss
  dsimp only
  split
  · next hlost =>
    simp only [LoopEntry.linkSound, hlost] at h ⊢
    omega
  · exact e.linkSound_linkOf hlimit

/-- R142: the eighth answer of a run recovers a LOST link; before it the run grows. -/
theorem LoopEntry.linkSound.good {e : LoopEntry} (h : e.linkSound) : e.good.linkSound := by
  have hhealth := h.health_le
  unfold LoopEntry.good
  split
  · next hlost =>
    split
    · next hrun =>
      simp only [LoopEntry.linkSound, hlost] at h ⊢
      exact ⟨h.1, h.2.1, hrun⟩
    · exact ⟨Nat.zero_lt_succ _, rfl⟩
  · exact e.linkSound_linkOf (by omega)

theorem LinkMove.linkSound {x y : LoopEntry} (h : LinkMove x y) (hx : x.linkSound) : y.linkSound := by
  cases h with
  | same | stores => exact hx
  | misses => exact hx.miss
  | answers => exact hx.good
  | resets => exact ⟨by decide, rfl⟩

/-! ### What the end of a store operation leaves of RESET_N -/

theorem State.claimFor_resetAsserted {s t : State} {n : Nat} {c : SlotClaim}
    (h : s.claimFor n = some (t, c)) : t.resetAsserted = s.resetAsserted := by
  unfold State.claimFor at h
  split at h
  · cases h
    simp
  · cases h

theorem State.writePassed_resetAsserted (s : State) (n : Nat) (i : RecordSlot) :
    (s.writePassed n i).resetAsserted = s.resetAsserted := by
  unfold State.writePassed
  dsimp only
  split <;> simp

theorem State.writeFailed_resetAsserted (s : State) (n : Nat) (i : RecordSlot) (retry : Bool)
    (left : SlotCells) : (s.writeFailed n i retry left).resetAsserted = s.resetAsserted := by
  unfold State.writeFailed
  dsimp only
  split
  · simp
  · split
    · next t c hclaim =>
      rw [State.putFlight_resetAsserted, State.claimFor_resetAsserted hclaim]
      simp
    · simp

theorem State.endWrite_resetAsserted (s : State) (n : Nat) (i : RecordSlot) (retry : Bool)
    (v : WriteVerify) : (s.endWrite n i retry v).resetAsserted = s.resetAsserted := by
  cases v with
  | pass => exact s.writePassed_resetAsserted n i
  | fail left takes => exact s.writeFailed_resetAsserted n i retry _
  | eraseFail left => exact s.writeFailed_resetAsserted n i retry left

theorem State.payDeferred_resetAsserted (s : State) (kind : Byte) (r : Reply) :
    (s.payDeferred kind r).resetAsserted = s.resetAsserted := by
  unfold State.payDeferred
  split <;> simp

theorem State.siteDeferred_resetAsserted (s : State) (kind : Byte) (r : Reply) :
    (s.siteDeferred kind r).resetAsserted = s.resetAsserted := by
  unfold State.siteDeferred
  split <;> simp

theorem State.endMark_resetAsserted (s : State) (n : Nat) (i : RecordSlot) (v : Verify Bool) :
    (s.endMark n i v).resetAsserted = s.resetAsserted := by
  cases v <;> simp [State.endMark, State.payDeferred_resetAsserted]

theorem State.claimAgain_resetAsserted (s : State) (n : Nat) :
    (s.claimAgain n).resetAsserted = s.resetAsserted := by
  unfold State.claimAgain
  split
  · next t c hclaim => exact State.claimFor_resetAsserted hclaim
  · simp

theorem State.endErase_resetAsserted (s : State) (i : RecordSlot) (v : Verify SlotCells) :
    (s.endErase i v).resetAsserted = s.resetAsserted := by
  cases v with
  | pass => simp [State.endErase, State.erasePassed]
  | fail left =>
    simp only [State.endErase, State.eraseFailed]
    split <;> simp [State.claimAgain_resetAsserted]

theorem State.endReservation_resetAsserted (s : State) (l : Nat) (v : Verify (Area Nat)) :
    (s.endReservation l v).resetAsserted = s.resetAsserted := by
  cases v <;> rfl

theorem State.endSave_resetAsserted (s : State) (c : Settings) (v : Verify (Area Settings)) :
    (s.endSave c v).resetAsserted = s.resetAsserted := by
  cases v <;> exact State.siteDeferred_resetAsserted _ _ _

/-! ### What a move does to the Loop Controller -/

/-- What a move or a configuration may do to the loop entries, to LOOP_DE and to RESET_N. -/
structure State.loopMoves (t s : State) : Prop where
  entry : ∀ p, LinkMove (s.loopEntry p) (t.loopEntry p)
  driver : s.loop.driverEnable = false → t.loop.driverEnable = false
  reset : t.resetAsserted = s.resetAsserted

theorem State.loopMoves_of_entries {t s : State} (hentries : t.loop.entries = s.loop.entries)
    (hdriver : s.loop.driverEnable = false → t.loop.driverEnable = false)
    (hreset : t.resetAsserted = s.resetAsserted) : t.loopMoves s where
  entry p := by
    rw [State.loopEntry_congr hentries]
    exact .same
  driver := hdriver
  reset := hreset

theorem State.loopMoves_of_loop {t s : State} (hloop : t.loop = s.loop)
    (hreset : t.resetAsserted = s.resetAsserted) : t.loopMoves s :=
  State.loopMoves_of_entries (by rw [hloop]) (by rw [hloop]; exact id) hreset

theorem State.loopMoves_putLoopEntry {s : State} {p : Pedestal} {e : LoopEntry}
    (h : LinkMove (s.loopEntry p) e) : (s.putLoopEntry p e).loopMoves s where
  entry q := by
    rw [State.loopEntry_putLoopEntry]
    split
    · next hq => rwa [hq]
    · exact .same
  driver := id
  reset := rfl

/-- R133: LOOP_DE is low after the poll frame. -/
theorem State.beginExchange_loopMoves (s : State) (n : Nat) : (s.beginExchange n).loopMoves s := by
  unfold State.beginExchange
  split
  · exact State.loopMoves_of_entries rfl (fun _ => rfl) rfl
  · exact State.loopMoves_of_entries rfl id rfl

/-- R177: round 0 begins within the scan's end. -/
theorem State.endScan_loopMoves (s : State) (aged : List (RecordSlot × SlotCells)) :
    (s.endScan aged).loopMoves s := by
  have hbegin := State.beginExchange_loopMoves (s.reopened aged) 0
  rw [← State.endScan_eq] at hbegin
  obtain ⟨-, -, hentries⟩ := s.endScan_same aged
  exact State.loopMoves_of_entries hentries hbegin.driver hbegin.reset

theorem TableMove.loopMoves {s t : State} (h : TableMove s t) : t.loopMoves s := by
  cases h with
  | advance => exact State.loopMoves_of_entries rfl id rfl
  | session | flags | authorises | resetsPeak | tracks | ramps => exact State.loopMoves_of_loop rfl rfl
  | opens | voids | closes | stops | parks => exact State.loopMoves_of_loop (by simp) (by simp)

theorem Move.loopMoves {s t : State} (h : Move s t) : t.loopMoves s := by
  cases h with
  | table h => exact h.loopMoves
  | misses p => exact State.loopMoves_putLoopEntry .misses
  | answers p => exact State.loopMoves_putLoopEntry .answers
  | stores p r stamp => exact State.loopMoves_putLoopEntry (.stores r stamp)
  | exchange n => exact s.beginExchange_loopMoves n
  | round n left => exact State.loopMoves_of_entries rfl id rfl
  | scans aged _ => exact s.endScan_loopMoves aged
  | reserves => exact State.loopMoves_of_loop (by simp) (by simp)
  | endsWrite n i eraseFirst retry left v _ =>
    exact State.loopMoves_of_loop (s.endWrite_storeOnly n i retry v).loop
      (s.endWrite_resetAsserted n i retry v)
  | endsMark n i left v _ =>
    exact State.loopMoves_of_loop (s.endMark_storeOnly n i v).loop (s.endMark_resetAsserted n i v)
  | endsErase i left v _ =>
    exact State.loopMoves_of_loop (s.endErase_storeOnly i v).loop (s.endErase_resetAsserted i v)
  | endsReservation l left v _ =>
    exact State.loopMoves_of_loop (s.endReservation_storeOnly l v).loop
      (s.endReservation_resetAsserted l v)
  | endsSave c left v _ =>
    exact State.loopMoves_of_loop (s.endSave_storeOnly c v).loop (s.endSave_resetAsserted c v)
  | time | pay | site | meas | factor | row | binding | park | halts | settles | releases | saves =>
    exact State.loopMoves_of_loop rfl rfl

/-- R167: of the configurations SET PEDESTAL alone resets a loop entry. -/
theorem Configured.loopMoves {s t : State} (h : Configured s t) : t.loopMoves s := by
  cases h with
  | siteCeiling | parameters => exact State.loopMoves_of_loop rfl rfl
  | feeder f c =>
    rw [State.writeFeeder_eq]
    split <;> exact State.loopMoves_of_loop rfl rfl
  | pedestal p c _ =>
    unfold State.configurePedestal
    dsimp only
    split
    · exact State.loopMoves_of_loop rfl rfl
    · have hput := State.loopMoves_putLoopEntry (s := s) (p := p) .resets
      exact { entry := hput.entry, driver := hput.driver, reset := hput.reset }
  | restored r _ =>
    rw [(s.restored_derates r).rest]
    exact State.loopMoves_of_loop rfl rfl

/-! ### The law of the links -/

theorem LinkLaw.loopMoves {s t : State} (hs : LinkLaw s) (h : t.loopMoves s) : LinkLaw t :=
  fun p => (h.entry p).linkSound (hs p)

theorem LinkLaw.of_entries {s t : State} (hs : LinkLaw s) (h : t.loop.entries = s.loop.entries) :
    LinkLaw t := fun p => by
  rw [State.loopEntry_congr h]
  exact hs p

theorem LinkLaw.effect {s t : State} (hs : LinkLaw s) (h : Effect s t) : LinkLaw t :=
  h.keeps (P := LinkLaw) (fun _ _ hs hm => hs.loopMoves hm.loopMoves)
    (fun _ hu => (hs.loopMoves hu.loopMoves).of_entries rfl) (fun _ hu => hu.of_entries rfl)
    (fun u hu => hu.of_entries (by rw [u.finish_loop])) (fun _ => hs.of_entries rfl)
    afterReset_linkLaw hs

/-- Settles O15: an entry changes by a miss, an accepted answer or a reset alone, and each leaves the link
state that its counters give. -/
theorem stepKeepsLinkLaw : Obligations.StepKeepsLinkLaw := by
  unfold Obligations.StepKeepsLinkLaw
  intro s t hs hstep
  exact step_keeps (P := LinkLaw) (fun _ _ h => h) (fun _ h => h) (fun _ _ h heffect => h.effect heffect)
    hs hstep

/-! ### The law of the pins -/

/-- R133: LOOP_DE is low between events. -/
theorem Effect.driverEnable {s t : State} (h : Effect s t) (hs : s.loop.driverEnable = false) :
    t.loop.driverEnable = false :=
  h.keeps (P := fun u => u.loop.driverEnable = false) (fun _ _ hs hm => hm.loopMoves.driver hs)
    (fun _ hu => hu.loopMoves.driver hs) (fun _ hu => hu) (fun u hu => by rwa [u.finish_loop])
    (fun _ => rfl) (fun _ _ _ => rfl) hs

theorem Moves.resetAsserted {s t : State} (h : Moves s t) : t.resetAsserted = s.resetAsserted :=
  Moves.keeps (P := fun u => u.resetAsserted = s.resetAsserted)
    (fun _ _ hu hm => hm.loopMoves.reset.trans hu) rfl h

/-- R184: only HARDWARE_RESET_ASSERT pulls RESET_N low. -/
theorem Event.resetAsserted {s v : State} (h : Event s v) : v.resetAsserted = s.resetAsserted := by
  cases h with
  | plain u hu =>
    unfold recomputeAfter
    split <;> exact hu.resetAsserted
  | forced u hu => exact hu.resetAsserted
  | configured u hu => exact hu.loopMoves.reset

/-- R150, R157, R158, R174: the end of an event drives the pins. -/
theorem State.finish_pinLaw {s : State} (hrun : s.resetAsserted = false)
    (hdriver : s.finish.loop.driverEnable = false) : PinLaw s.finish := by
  refine ⟨hdriver, ?_⟩
  rw [s.finish_resetAsserted, hrun]
  exact ⟨s.startWork.drive_conditionsHold, rfl, rfl, rfl⟩

theorem PinLaw.effect {s t : State} (hs : PinLaw s) (h : Effect s t) : PinLaw t := by
  have hdriver := h.driverEnable hs.1
  cases h with
  | ignored => exact hs
  | asserted cut => exact ⟨rfl, rfl, rfl, rfl, rfl, rfl⟩
  | restarted => exact afterReset_pinLaw _ _ _
  | restartedHere => exact State.finish_pinLaw rfl hdriver
  | event v w hrun hevent hafter =>
    refine State.finish_pinLaw ?_ hdriver
    rw [hafter.moves.resetAsserted, hevent.resetAsserted, hrun]

/-- Settles O16: every event that runs ends with its outputs driven, and RESET_N low silences them. -/
theorem stepKeepsPinLaw : Obligations.StepKeepsPinLaw := by
  unfold Obligations.StepKeepsPinLaw
  intro s t hs hstep
  exact step_keeps (P := PinLaw) (fun _ _ h => h) (fun _ h => h) (fun _ _ h heffect => h.effect heffect)
    hs hstep

end Sys2Proof.Machine
end

section
/-! SUPPORT. Numbers as bytes and the check value (O18): a field reads back modulo its width, the check value
takes one bit at a time, and a frame passes with its own check value only. -/

namespace Sys2Proof.Machine
open Sys2Proof

/-! ### Fields, most significant byte first -/

theorem bytesOf_length (width v : Nat) : (bytesOf width v).length = width := by
  induction width generalizing v with
  | zero => rfl
  | succ width ih => rw [bytesOf, List.length_append, ih, List.length_singleton]

theorem numberOf_append_singleton (l : List Byte) (b : Byte) :
    numberOf (l ++ [b]) = numberOf l * 256 + b.toNat := by
  rw [numberOf, List.foldl_append]
  rfl

theorem numberOf_bytesOf (width v : Nat) : numberOf (bytesOf width v) = v % 256 ^ width := by
  induction width generalizing v with
  | zero => exact (Nat.mod_one v).symm
  | succ width ih =>
    rw [bytesOf, numberOf_append_singleton, ih, Nat.pow_succ', Nat.mod_mul, BitVec.toNat_ofNat]
    omega

theorem bytesOf_succ_eq_cons (width v : Nat) :
    bytesOf (width + 1) v = BitVec.ofNat 8 (v / 256 ^ width) :: bytesOf width v := by
  induction width generalizing v with
  | zero => simp [bytesOf]
  | succ width ih =>
    rw [bytesOf, ih, List.cons_append, Nat.div_div_eq_div_mul, ← Nat.pow_succ']
    rfl

/-- A word reads back from a field of its own width. -/
theorem numberOf_bytesOf_toNat {width : Nat} (x : BitVec (8 * width)) :
    numberOf (bytesOf width x.toNat) = x.toNat := by
  rw [numberOf_bytesOf]
  exact Nat.mod_eq_of_lt (by simpa [Nat.pow_mul] using x.isLt)

/-- A field of two bytes names its word. -/
theorem bytesOf_two_injective {x y : BitVec 16} (h : bytesOf 2 x.toNat = bytesOf 2 y.toNat) : x = y := by
  have hnumber := congrArg numberOf h
  rw [numberOf_bytesOf_toNat, numberOf_bytesOf_toNat] at hnumber
  exact BitVec.eq_of_toNat_eq hnumber

/-! ### The check value, bit by bit (R136, R188) -/

/-- One bit into the register: the register is shifted, and takes the polynomial where its top bit and
the bit differ. -/
def crcBit (c : BitVec 16) (bit : Bool) : BitVec 16 :=
  if c.getLsbD 15 = bit then c <<< 1 else (c <<< 1) ^^^ 0x1021

/-- A register to which waiting bits have been added takes the first of them as it shifts, and the others
wait shifted. -/
theorem crcShift_xor (c waiting : BitVec 16) :
    crcShift (c ^^^ waiting) = crcBit c waiting.msb ^^^ (waiting <<< 1) := by
  have hshift : (c ^^^ waiting) <<< 1 = c <<< 1 ^^^ waiting <<< 1 := BitVec.shiftLeft_xor_distrib ..
  have htop : c.getLsbD 15 = c.msb := (BitVec.msb_eq_getLsbD_last c).symm
  have hpoly (x y : BitVec 16) : (x ^^^ y) ^^^ 0x1021 = (x ^^^ 0x1021) ^^^ y := by ac_rfl
  unfold crcShift crcBit
  rw [BitVec.msb_xor, hshift, htop, hpoly]
  cases c.msb <;> cases waiting.msb <;> rfl

/-- The byte stands in the high half of the register, so its bits come to the top one by one. -/
theorem msb_byte_shiftLeft (b : Byte) {k : Nat} (hk : k < 8) :
    (b.zeroExtend 16 <<< (8 + k)).msb = b.getLsbD (7 - k) := by
  have hplace : 15 - (8 + k) = 7 - k := by omega
  have hhigh : ¬ 15 < 8 + k := by omega
  simp [BitVec.msb_eq_getLsbD_last, hplace, hhigh]

/-- R136: a byte enters the register most significant bit first. -/
theorem crcByte_eq_foldl (c : BitVec 16) (b : Byte) :
    crcByte c b = [7, 6, 5, 4, 3, 2, 1, 0].foldl (fun r bit => crcBit r (b.getLsbD bit)) c := by
  have hbit (r : BitVec 16) (k : Nat) (hk : k < 8) :
      crcShift (r ^^^ b.zeroExtend 16 <<< (8 + k))
        = crcBit r (b.getLsbD (7 - k)) ^^^ b.zeroExtend 16 <<< (8 + (k + 1)) := by
    rw [crcShift_xor, msb_byte_shiftLeft b hk, ← BitVec.shiftLeft_add, Nat.add_assoc]
  have hdone : b.zeroExtend 16 <<< 16 = 0#16 := BitVec.shiftLeft_eq_zero le_rfl
  rw [crcByte, hbit c 0 (by decide), hbit _ 1 (by decide), hbit _ 2 (by decide), hbit _ 3 (by decide),
    hbit _ 4 (by decide), hbit _ 5 (by decide), hbit _ 6 (by decide), hbit _ 7 (by decide), hdone,
    BitVec.xor_zero]
  rfl

theorem crc16_append_singleton (fields : List Byte) (b : Byte) :
    crc16 (fields ++ [b])
      = [7, 6, 5, 4, 3, 2, 1, 0].foldl (fun r bit => crcBit r (b.getLsbD bit)) (crc16 fields) := by
  rw [crc16, List.foldl_append, ← crc16, ← crcByte_eq_foldl]
  rfl

/-! ### The check of a frame (R188) -/

theorem checkHolds_append (fields : List Byte) (c : BitVec 16) :
    checkHolds (fields ++ bytesOf 2 c.toNat) = true ↔ c = crc16 fields := by
  have hlength : (fields ++ bytesOf 2 c.toNat).length - 2 = fields.length := by
    rw [List.length_append, bytesOf_length, Nat.add_sub_cancel]
  have htwo : 2 ≤ (fields ++ bytesOf 2 c.toNat).length := by
    rw [List.length_append, bytesOf_length]
    exact Nat.le_add_left _ _
  rw [checkHolds, hlength, List.drop_left, List.take_left, decide_eq_true htwo, Bool.true_and,
    decide_eq_true_iff]
  exact ⟨bytesOf_two_injective, fun h => by rw [h]⟩

theorem checkHolds_closeFrame (start : Byte) (fields : List Byte) :
    checkHolds ((closeFrame start fields).drop 1) = true :=
  (checkHolds_append fields (crc16 fields)).mpr rfl

/-- Settles O18: fields by their width, the check value byte by byte and each byte bit by bit, and the
check of a frame through its last two bytes. -/
theorem numbersAndCheckValues : Obligations.NumbersAndCheckValues := by
  unfold Obligations.NumbersAndCheckValues
  refine ⟨fun width v => ⟨bytesOf_length width v, numberOf_bytesOf width v, fun hwidth => ?_⟩, rfl,
    crc16_append_singleton, by decide +kernel, fun start fields c =>
      ⟨rfl, checkHolds_closeFrame start fields, checkHolds_append fields c⟩⟩
  obtain ⟨n, rfl⟩ := Nat.exists_eq_succ_of_ne_zero hwidth.ne'
  exact bytesOf_succ_eq_cons n v

end Sys2Proof.Machine
end

section
/-! SUPPORT. The answer frame (O21): which characters are taken for a frame (R187), and which frames carry
a report of the polled pedestal (R136, R138). -/

namespace Sys2Proof.Machine
open Sys2Proof

/-! ### The characters of a frame (R187) -/

theorem fromStart_of_noise {noise : List LoopChar} (h : ∀ c ∈ noise, c.byte ≠ 0xAA)
    (rest : List LoopChar) : fromStart (noise ++ rest) = fromStart rest := by
  induction noise with
  | nil => rfl
  | cons c noise ih =>
    obtain ⟨hc, hnoise⟩ := List.forall_mem_cons.mp h
    exact (if_neg hc).trans (ih hnoise)

theorem fromStart_of_start {start : LoopChar} (h : start.byte = 0xAA) (rest : List LoopChar) :
    fromStart (start :: rest) = start :: rest := if_pos h

/-- Bytes before the first AAH are passed over. -/
theorem answerFrame_of_noise {noise : List LoopChar} (h : ∀ c ∈ noise, c.byte ≠ 0xAA)
    (rest : List LoopChar) : answerFrame (noise ++ rest) = answerFrame rest := by
  unfold answerFrame
  rw [fromStart_of_noise h]

/-- From AAH on fourteen characters are the frame, if they are received and none is broken. -/
theorem answerFrame_of_start {start : LoopChar} (h : start.byte = 0xAA) (rest : List LoopChar) :
    answerFrame (start :: rest)
      = if 13 ≤ rest.length ∧ ∀ c ∈ start :: rest.take 13, c.framingError = false then
          some ((start :: rest.take 13).map (·.byte))
        else none := by
  unfold answerFrame
  rw [fromStart_of_start h]
  refine if_congr ?_ rfl rfl
  simp

/-- A closed frame of eleven bytes of fields is fourteen characters, so it is received whole. -/
theorem answerFrame_of_closeFrame {fields : List Byte} (h : fields.length = 11) :
    answerFrame ((closeFrame 0xAA fields).map fun b => { byte := b, framingError := false })
      = some (closeFrame 0xAA fields) := by
  have hrest : (fields ++ bytesOf 2 (crc16 fields).toNat).length = 13 := by
    rw [List.length_append, bytesOf_length, h]
  unfold closeFrame
  rw [List.cons_append, List.map_cons, answerFrame_of_start rfl,
    List.take_of_length_le (by rw [List.length_map, hrest]), List.length_map, hrest,
    if_pos ⟨le_rfl, List.forall_mem_cons.mpr ⟨rfl, List.forall_mem_map.mpr fun _ _ => rfl⟩⟩,
    List.map_cons, List.map_map]
  exact congrArg (fun l => some (0xAA :: l)) (List.map_id _)

/-! ### The report of a frame (R136, R138) -/

theorem reportStateOf_of_ge {code : Byte} (h : 5 ≤ code.toNat) : reportStateOf code = none := by
  unfold reportStateOf
  split
  · omega
  · omega
  · omega
  · omega
  · omega
  · rfl

section
variable {frame : List Byte} {p : Pedestal}

theorem reportOf_of_badCheck (h : ¬ checkHolds (frame.drop 1) = true) (cap : Nat) :
    reportOf frame p cap = none := by
  unfold reportOf
  rw [if_neg fun hsound => h (Bool.and_eq_true_iff.mp hsound).1]

theorem reportOf_of_otherPedestal (h : (frame.getD 1 0).toNat ≠ p.val) (cap : Nat) :
    reportOf frame p cap = none := by
  unfold reportOf
  rw [if_neg fun hsound => h (of_decide_eq_true (Bool.and_eq_true_iff.mp hsound).2)]

theorem reportOf_of_badCode (h : reportStateOf (frame.getD 2 0) = none) (cap : Nat) :
    reportOf frame p cap = none := by
  unfold reportOf
  rw [h, ite_self]

/-- R136, R138: the report of a frame that passes its tests. -/
theorem reportOf_of_sound {st : ReportState} (hcheck : checkHolds (frame.drop 1) = true)
    (hpedestal : (frame.getD 1 0).toNat = p.val) (hcode : reportStateOf (frame.getD 2 0) = some st)
    (cap : Nat) : reportOf frame p cap = some
      { state := st
        stopPressed := (frame.getD 3 0).getLsbD 0
        emergency := (frame.getD 3 0).getLsbD 1
        request := min (numberOf ((frame.drop 4).take 2)) cap
        draw := numberOf ((frame.drop 6).take 2)
        reading := numberOf ((frame.drop 8).take 4) % 1000000000 } := by
  unfold reportOf
  rw [hcheck, decide_eq_true hpedestal, hcode]
  rfl

end

/-! ### The frame of Table 12.4 -/

/-- The fields of an answer frame. -/
def answerFields (p : Pedestal) (code flags : Byte) (request draw : BitVec 16) (reading : Word32) :
    List Byte :=
  [BitVec.ofNat 8 p.val, code, flags] ++ wordBytes 2 request ++ wordBytes 2 draw ++ wordBytes 4 reading

section
variable (p : Pedestal) (code flags : Byte) (request draw : BitVec 16) (reading : Word32)

theorem answerFields_length : (answerFields p code flags request draw reading).length = 11 := by
  simp [answerFields, wordBytes, bytesOf_length]

theorem toNat_pedestalByte : (BitVec.ofNat 8 p.val).toNat = p.val := by
  rw [BitVec.toNat_ofNat, Nat.mod_eq_of_lt (p.isLt.trans (by decide))]

theorem reportOf_answerFrame {st : ReportState} (h : reportStateOf code = some st) (cap : Nat) :
    reportOf (closeFrame 0xAA (answerFields p code flags request draw reading)) p cap = some
      { state := st, stopPressed := flags.getLsbD 0, emergency := flags.getLsbD 1,
        request := min request.toNat cap, draw := draw.toNat,
        reading := reading.toNat % 1000000000 } := by
  have hrequest : numberOf (wordBytes 2 request) = request.toNat :=
    numberOf_bytesOf_toNat (width := 2) request
  have hdraw : numberOf (wordBytes 2 draw) = draw.toNat := numberOf_bytesOf_toNat (width := 2) draw
  have hreading : numberOf (wordBytes 4 reading) = reading.toNat :=
    numberOf_bytesOf_toNat (width := 4) reading
  rw [← hrequest, ← hdraw, ← hreading]
  exact reportOf_of_sound (frame := closeFrame 0xAA (answerFields p code flags request draw reading))
    (checkHolds_closeFrame _ _) (toNat_pedestalByte p) h cap

end

/-- Settles O21: the frame is taken from the characters received, then read test by test. -/
theorem answerFramesReadBack : Obligations.AnswerFramesReadBack := by
  unfold Obligations.AnswerFramesReadBack
  intro p q code flags request draw reading cap noise hnoise
  refine ⟨?_, fun st hst => ⟨reportOf_answerFrame p code flags request draw reading hst cap,
    fun hother => reportOf_of_otherPedestal ?_ cap⟩, fun check hcheck => reportOf_of_badCheck ?_ cap,
    fun hcode => reportOf_of_badCode ?_ cap, ?_,
    fun start rest hstart => ⟨fun hshort => ?_, fun hbroken => ?_⟩⟩
  · rw [answerFrame_of_noise hnoise]
    exact answerFrame_of_closeFrame (answerFields_length p code flags request draw reading)
  · show (BitVec.ofNat 8 p.val).toNat ≠ q.val
    rw [toNat_pedestalByte]
    exact fun h => hother (Fin.ext h.symm)
  · exact fun h => hcheck ((checkHolds_append _ check).mp h)
  · exact reportStateOf_of_ge hcode
  · rw [← List.append_nil noise, answerFrame_of_noise hnoise]
    rfl
  · rw [answerFrame_of_noise hnoise, answerFrame_of_start hstart,
      if_neg fun h => absurd h.1 (Nat.not_le.mpr hshort)]
  · obtain ⟨c, hc, hframing⟩ := hbroken
    rw [answerFrame_of_noise hnoise, answerFrame_of_start hstart,
      if_neg fun h => Bool.false_ne_true ((h.2 c hc).symm.trans hframing)]

end Sys2Proof.Machine
end

section
/-! SUPPORT. What an arrival at a port comes to (O24): the discard of a port in WORKING, the answer of one
that takes the request, and the park state's refusal. -/

namespace Sys2Proof.Machine
open Sys2Proof

/-! ### Arrivals that are discarded, answered or refused -/

theorem State.payTakes_split {s : State} (h : s.payTakes = true) :
    s.resetAsserted = false ∧ s.pay.state.takes = true := by
  simpa [State.payTakes] using h

theorem State.siteTakes_split {s : State} (h : s.siteTakes = true) :
    s.resetAsserted = false ∧ s.site.state.takes = true := by
  simpa [State.siteTakes] using h

/-- R151: whatever the treatment, a Payment Port in WORKING discards the arrival. -/
theorem State.payArrival_of_working {s : State} {unread : Bool} (hrun : s.resetAsserted = false)
    (hstate : s.pay.state = .working unread) (kind : Byte) (treat : State → Treated) :
    (s.event fun t => t.payArrive kind treat)
      = ({ s with pay := { s.pay with window := none, dropped := true } } : State).finish := by
  have harrive : s.payArrive kind treat
      = { s with pay := { s.pay with window := none, dropped := true } } := by
    simp only [State.payArrive, hstate]
  rw [State.event_of_running hrun, harrive]
  exact congrArg State.finish (recomputeAfter_of_same rfl rfl rfl)

/-- R164: whatever the treatment, a Site Port in WORKING discards the arrival. -/
theorem State.siteArrival_of_working {s : State} {unread : Bool} (hrun : s.resetAsserted = false)
    (hstate : s.site.state = .working unread) (kind : Byte) (treat : State → Treated) :
    (s.quiet fun t => t.siteArrive kind treat)
      = ({ s with site := { s.site with dropped := true } } : State).finish := by
  rw [State.quiet_of_running hrun]
  simp only [State.siteArrive, hstate]

/-- R151, R152: an arrival that the Payment Port takes, answered with no effect but the reply. -/
theorem State.payArrival_answered {s : State} {kind : Byte} {treat : State → Treated} {o : OutcomeCode}
    {body : List Byte} (h : s.payTakes = true)
    (ht : treat s.windowEnded = s.windowEnded.answer o body) :
    (s.event fun t => t.payArrive kind treat) = (s.payReplied kind o body).finish := by
  obtain ⟨hrun, htakes⟩ := State.payTakes_split h
  rw [State.event_of_running hrun, State.payArrive_reply htakes ht]
  exact congrArg State.finish
    (recomputeAfter_of_same (t := s.payReplied kind o body) rfl rfl rfl)

/-- R164, R165: an arrival that the Site Port takes, answered with no effect but the reply. -/
theorem State.siteArrival_answered {s : State} {kind : Byte} {treat : State → Treated} {o : OutcomeCode}
    {body : List Byte} (h : s.siteTakes = true) (ht : treat s = s.answer o body) :
    (s.quiet fun t => t.siteArrive kind treat) = (s.siteReplied kind o body).finish := by
  obtain ⟨hrun, htakes⟩ := State.siteTakes_split h
  rw [State.quiet_of_running hrun, State.siteArrive_reply htakes ht]
  rfl

theorem PayRequest.isStatus_of_ne {r : PayRequest} (h : r ≠ .status) : r.isStatus = false := by
  cases r with
  | status => exact absurd rfl h
  | _ => rfl

theorem SiteRequest.isStatus_of_ne {r : SiteRequest} (h : r ≠ .status) : r.isStatus = false := by
  cases r with
  | status => exact absurd rfl h
  | _ => rfl

theorem State.gate_of_starting {s : State} (h : s.park.state = .starting) (treat : State → Treated) :
    s.gate false treat = s.answer .notReady [] := by
  simp only [State.gate, h, Bool.false_eq_true, if_false]

theorem State.gate_of_powerFail {s : State} (h : s.park.state = .powerFail) (treat : State → Treated) :
    s.gate false treat = s.answer .powerFail [] := by
  simp only [State.gate, h, Bool.false_eq_true, if_false]

/-! ### Frames as they arrive -/

/-- R152: what the Payment Port does with what it finds in a frame. -/
def State.treatPayReading (s : State) : FrameReading PayRequest → State
  | .badFrame kind => s.payRefusal kind .badFrame
  | .unknownKind kind => s.payRefusal kind .unknownKind
  | .request r => s.payRequest r

/-- R165: what the Site Port does with what it finds in a frame. -/
def State.treatSiteReading (s : State) : FrameReading SiteRequest → State
  | .badFrame kind => s.siteRefusal kind .badFrame
  | .unknownKind kind => s.siteRefusal kind .unknownKind
  | .request r => s.siteRequest r

/-- R152: a window with a byte that is not the read code carries a frame. -/
theorem exec_payUnknownRequest (s : State) {frame : List Byte} (hbyte : frame ≠ [])
    (hcode : frame.head? ≠ some 0x0F) (cut : Bool) :
    exec (.payUnknownRequest frame cut) s = .next (s.treatPayReading (readPayFrame frame cut)) := by
  cases frame with
  | nil => exact absurd rfl hbyte
  | cons first rest =>
    have hfirst : ¬ first = readCode := fun h => hcode (congrArg some h)
    refine congrArg Host.Outcome.next ((if_neg hfirst).trans ?_)
    cases readPayFrame (first :: rest) cut <;> rfl

/-- R165: a transaction with a complete byte carries a frame. -/
theorem exec_siteUnknownRequest (s : State) {frame : List Byte} (hbyte : frame ≠ []) (cut : Bool) :
    exec (.siteUnknownRequest frame cut) s = .next (s.treatSiteReading (readSiteFrame frame cut)) := by
  cases frame with
  | nil => exact absurd rfl hbyte
  | cons first rest =>
    refine congrArg Host.Outcome.next ?_
    dsimp only
    cases readSiteFrame (first :: rest) cut <;> rfl

theorem State.treatPayReading_of_working {s : State} {unread : Bool} (hrun : s.resetAsserted = false)
    (hstate : s.pay.state = .working unread) (reading : FrameReading PayRequest) :
    s.treatPayReading reading
      = ({ s with pay := { s.pay with window := none, dropped := true } } : State).finish := by
  cases reading <;> exact State.payArrival_of_working hrun hstate _ _

theorem State.treatSiteReading_of_working {s : State} {unread : Bool} (hrun : s.resetAsserted = false)
    (hstate : s.site.state = .working unread) (reading : FrameReading SiteRequest) :
    s.treatSiteReading reading = ({ s with site := { s.site with dropped := true } } : State).finish := by
  cases reading <;> exact State.siteArrival_of_working hrun hstate _ _

/-- Settles O24: an arrival in WORKING is discarded before its frame is looked at, and the park state's
check comes before the request's own rule. -/
theorem portsDiscardAndRefuse : Obligations.PortsDiscardAndRefuse := by
  unfold Obligations.PortsDiscardAndRefuse
  intro s
  refine ⟨fun unread hrun => ⟨fun hpay => ⟨fun r => ?_, fun first rest cut hfirst => ?_⟩,
      fun hsite => ⟨fun r => ?_, fun frame cut hbyte => ?_⟩⟩,
    fun htakes r hr => ⟨fun hpark => ?_, fun hpark => ?_⟩,
    fun htakes r hr => ⟨fun hpark => ?_, fun hpark => ?_⟩⟩
  · exact State.payArrival_of_working hrun hpay _ _
  · rw [exec_payUnknownRequest s (List.cons_ne_nil _ _) fun h => hfirst (Option.some.inj h),
      State.treatPayReading_of_working hrun hpay]
  · exact State.siteArrival_of_working hrun hsite _ _
  · rw [exec_siteUnknownRequest s hbyte, State.treatSiteReading_of_working hrun hsite]
  · refine State.payArrival_answered htakes ?_
    rw [PayRequest.isStatus_of_ne hr]
    exact State.gate_of_starting (s := s.windowEnded) hpark _
  · refine State.payArrival_answered htakes ?_
    rw [PayRequest.isStatus_of_ne hr]
    exact State.gate_of_powerFail (s := s.windowEnded) hpark _
  · refine State.siteArrival_answered htakes ?_
    rw [SiteRequest.isStatus_of_ne hr]
    exact State.gate_of_starting hpark _
  · refine State.siteArrival_answered htakes ?_
    rw [SiteRequest.isStatus_of_ne hr]
    exact State.gate_of_powerFail hpark _

end Sys2Proof.Machine
end

section
/-! SUPPORT. What the ports find in a frame (O25): the checks of R152 and R165 in their order, the two
columns of Table 12.5, and a request's own frame, which is that request. -/

namespace Sys2Proof.Machine
open Sys2Proof

/-! ### The frame check and the kind check (R152, R165, R189) -/

/-- R152, R165: a frame that fails the frame check whatever its kind. -/
def UnsoundFrame (frame : List Byte) (cut : Bool) : Prop :=
  cut = true ∨ frame.head? ≠ some 0x3C ∨ frame.length < 4 ∨ checkHolds (frame.drop 1) = false

/-- The frame check as `readFrame` computes it; the first byte of a frame without one reads 00H. -/
theorem unsoundFrame_iff (frame : List Byte) (cut : Bool) : UnsoundFrame frame cut ↔
    (cut || frame.getD 0 0 != 0x3C || decide (frame.length < 4) || !checkHolds (frame.drop 1)) = true := by
  have hstart : frame.head? ≠ some 0x3C ↔ frame.getD 0 0 ≠ 0x3C := by
    cases frame with
    | nil => exact iff_of_true nofun (by decide)
    | cons first rest => exact not_congr Option.some_inj
  simp only [UnsoundFrame, hstart, Bool.or_eq_true, bne_iff_ne, decide_eq_true_eq, Bool.not_eq_true',
    or_assoc]

section
variable {α : Type} {lengthOf : Nat → Option Nat} {build : Nat → List Byte → α} {frame : List Byte}
  {cut : Bool}

theorem readFrame_of_knownKind {n : Nat} (h : ¬ UnsoundFrame frame cut)
    (hkind : lengthOf (frame.getD 1 0).toNat = some n) :
    readFrame lengthOf build frame cut = if frame.length = n + 4 then
        .request (build (frame.getD 1 0).toNat ((frame.drop 2).take n))
      else .badFrame (frame.getD 1 0) := by
  simp only [readFrame, if_neg (mt (unsoundFrame_iff frame cut).mpr h), hkind]

/-- BAD_FRAME: the frame fails the frame check, or has another length than the column gives its kind. -/
theorem readFrame_of_bad {column : List (Nat × Nat)}
    (hcolumn : ∀ kind n, lengthOf kind = some n ↔ (kind, n) ∈ column)
    (h : UnsoundFrame frame cut
      ∨ ∃ n, ((frame.getD 1 0).toNat, n) ∈ column ∧ frame.length ≠ n + 4) :
    readFrame lengthOf build frame cut = .badFrame (frame.getD 1 0) := by
  by_cases hunsound : UnsoundFrame frame cut
  · exact if_pos ((unsoundFrame_iff frame cut).mp hunsound)
  · obtain ⟨n, hkind, hlength⟩ := h.resolve_left hunsound
    rw [readFrame_of_knownKind hunsound ((hcolumn _ n).mpr hkind), if_neg hlength]

/-- UNKNOWN_KIND: a sound frame of a kind outside the column. -/
theorem readFrame_of_outside {column : List (Nat × Nat)}
    (hcolumn : ∀ kind n, lengthOf kind = some n ↔ (kind, n) ∈ column) (h : ¬ UnsoundFrame frame cut)
    (hout : ∀ n, ((frame.getD 1 0).toNat, n) ∉ column) :
    readFrame lengthOf build frame cut = .unknownKind (frame.getD 1 0) := by
  have hkind : lengthOf (frame.getD 1 0).toNat = none :=
    Option.eq_none_iff_forall_ne_some.mpr fun n hn => hout n ((hcolumn _ n).mp hn)
  simp only [readFrame, if_neg (mt (unsoundFrame_iff frame cut).mpr h), hkind]

/-- A frame closed over a known kind and as many bytes as it requires is that request. -/
theorem readFrame_closeFrame {kind : Byte} {args : List Byte}
    (hkind : lengthOf kind.toNat = some args.length) :
    readFrame lengthOf build (closeFrame 0x3C (kind :: args)) false
      = .request (build kind.toNat args) := by
  have hlength : (closeFrame 0x3C (kind :: args)).length = args.length + 4 := by
    simp [closeFrame, bytesOf_length]
  have hsound : ¬ UnsoundFrame (closeFrame 0x3C (kind :: args)) false := by
    rintro (hcut | hstart | hshort | hcheck)
    · cases hcut
    · exact hstart rfl
    · omega
    · rw [checkHolds_closeFrame] at hcheck
      cases hcheck
  have hargs : ((closeFrame 0x3C (kind :: args)).drop 2).take args.length = args := List.take_left
  refine (readFrame_of_knownKind hsound hkind).trans ((if_pos hlength).trans ?_)
  rw [hargs]
  rfl

end

/-! ### The columns of Table 12.5 -/

/-- The payment kinds with the number of their argument bytes. -/
def payColumn : List (Nat × Nat) := [(0x01, 0), (0x02, 0), (0x03, 13), (0x04, 5), (0x05, 5),
  (0x06, 1), (0x07, 0), (0x08, 4), (0x09, 1), (0x0A, 2)]

/-- The site kinds with the number of their argument bytes. -/
def siteColumn : List (Nat × Nat) := [(0x21, 0), (0x22, 2), (0x23, 10), (0x24, 7), (0x25, 11),
  (0x26, 12), (0x27, 3), (0x28, 4), (0x29, 0), (0x2A, 0), (0x2B, 1), (0x2C, 1), (0x2D, 0),
  (0x2E, 1), (0x2F, 2)]

theorem payLength_eq_some_iff (kind n : Nat) : payLength kind = some n ↔ (kind, n) ∈ payColumn := by
  unfold payLength
  split <;> simp_all [payColumn, eq_comm]

theorem siteLength_eq_some_iff (kind n : Nat) : siteLength kind = some n ↔ (kind, n) ∈ siteColumn := by
  unfold siteLength
  split <;> simp_all [siteColumn, eq_comm]

theorem payLength_kind (r : PayRequest) : payLength r.kind.toNat = some r.arguments.length := by
  cases r <;> rfl

theorem siteLength_kind (r : SiteRequest) : siteLength r.kind.toNat = some r.arguments.length := by
  cases r <;> rfl

/-! ### A request's own frame -/

theorem wordOf_wordBytes {width : Nat} (x : BitVec (8 * width)) :
    wordOf (8 * width) (wordBytes width x) = x := by
  rw [wordOf, wordBytes, numberOf_bytesOf_toNat, BitVec.ofNat_toNat, BitVec.setWidth_eq]

theorem wordOf_byte (b : Byte) : wordOf 8 [b] = b := by
  simp [wordOf, numberOf]

theorem payRequestOf_arguments (r : PayRequest) : payRequestOf r.kind.toNat r.arguments = r := by
  have hbyte := wordOf_byte
  have hword (x : Word32) : wordOf 32 (wordBytes 4 x) = x := wordOf_wordBytes (width := 4) x
  cases r with
  | status | nextAuthorisation | fetch => rfl
  | authorise p n hold ref =>
    show PayRequest.authorise (wordOf 8 [p]) (wordOf 32 (wordBytes 4 n)) (wordOf 32 (wordBytes 4 hold))
      (wordOf 32 (wordBytes 4 ref)) = _
    rw [hbyte, hword, hword, hword]
  | decline p n =>
    show PayRequest.decline (wordOf 8 [p]) (wordOf 32 (wordBytes 4 n)) = _
    rw [hbyte, hword]
  | cancel p n =>
    show PayRequest.cancel (wordOf 8 [p]) (wordOf 32 (wordBytes 4 n)) = _
    rw [hbyte, hword]
  | viewSession p => exact congrArg PayRequest.viewSession (hbyte p)
  | settle n => exact congrArg PayRequest.settle (hword n)
  | acknowledge m => exact congrArg PayRequest.acknowledge (hbyte m)
  | setLevel c l => exact congrArg₂ PayRequest.setLevel (hbyte c) (hbyte l)

theorem siteRequestOf_arguments (r : SiteRequest) : siteRequestOf r.kind.toNat r.arguments = r := by
  have hbyte := wordOf_byte
  have htwo (x : BitVec 16) : wordOf 16 (wordBytes 2 x) = x := wordOf_wordBytes (width := 2) x
  have hthree (x : BitVec 24) : wordOf 24 (wordBytes 3 x) = x := wordOf_wordBytes (width := 3) x
  have hword (x : Word32) : wordOf 32 (wordBytes 4 x) = x := wordOf_wordBytes (width := 4) x
  cases r with
  | status | quiesce | resume | saveSettings => rfl
  | setSiteCeiling c => exact congrArg SiteRequest.setSiteCeiling (htwo c)
  | setFeeder f c e tlow thigh floor =>
    show SiteRequest.setFeeder (wordOf 8 [f]) (wordOf 16 (wordBytes 2 c)) (wordOf 8 [e])
      (wordOf 16 (wordBytes 2 tlow)) (wordOf 16 (wordBytes 2 thigh)) (wordOf 16 (wordBytes 2 floor)) = _
    rw [hbyte, hbyte, htwo, htwo, htwo, htwo]
  | setPedestal p a f c cap m =>
    show SiteRequest.setPedestal (wordOf 8 [p]) (wordOf 8 [a]) (wordOf 8 [f]) (wordOf 8 [c])
      (wordOf 16 (wordBytes 2 cap)) (wordOf 8 [m]) = _
    rw [hbyte, hbyte, hbyte, hbyte, htwo, hbyte]
  | setParameters m st i sl hold t q =>
    show SiteRequest.setParameters (wordOf 16 (wordBytes 2 m)) (wordOf 16 (wordBytes 2 st)) (wordOf 8 [i])
      (wordOf 16 (wordBytes 2 sl)) (wordOf 16 (wordBytes 2 hold)) (wordOf 8 [t]) (wordOf 8 [q]) = _
    rw [htwo, htwo, hbyte, htwo, htwo, hbyte, hbyte]
  | writeTariffRow r v e ff g pm cap =>
    show SiteRequest.writeTariffRow (wordOf 8 [r]) (wordOf 8 [v]) (wordOf 24 (wordBytes 3 e))
      (wordOf 16 (wordBytes 2 ff)) (wordOf 8 [g]) (wordOf 16 (wordBytes 2 pm))
      (wordOf 16 (wordBytes 2 cap)) = _
    rw [hbyte, hbyte, hthree, htwo, hbyte, htwo, htwo]
  | bindTariff m r => exact congrArg₂ SiteRequest.bindTariff (htwo m) (hbyte r)
  | setClock t => exact congrArg SiteRequest.setClock (hword t)
  | readAllotment p => exact congrArg SiteRequest.readAllotment (hbyte p)
  | readFeeder f => exact congrArg SiteRequest.readFeeder (hbyte f)
  | acknowledge m => exact congrArg SiteRequest.acknowledge (hbyte m)
  | setLevel c l => exact congrArg₂ SiteRequest.setLevel (hbyte c) (hbyte l)

/-- R189: the Payment Port reads a request back from its frame. -/
theorem readPayFrame_frame (r : PayRequest) : readPayFrame r.frame false = .request r :=
  (readFrame_closeFrame (payLength_kind r)).trans (congrArg _ (payRequestOf_arguments r))

/-- R189: the Site Port reads a request back from its frame. -/
theorem readSiteFrame_frame (r : SiteRequest) : readSiteFrame r.frame false = .request r :=
  (readFrame_closeFrame (siteLength_kind r)).trans (congrArg _ (siteRequestOf_arguments r))

/-! ### The theorem -/

/-- A frame refused by the Payment Port's own checks is answered with its kind as received. -/
theorem State.payRefusal_answered {s : State} (h : s.payTakes = true) (kind : Byte) (o : OutcomeCode) :
    s.payRefusal kind o = (s.payReplied kind o []).finish := State.payArrival_answered h rfl

/-- A frame refused by the Site Port's own checks is answered with its kind as received. -/
theorem State.siteRefusal_answered {s : State} (h : s.siteTakes = true) (kind : Byte) (o : OutcomeCode) :
    s.siteRefusal kind o = (s.siteReplied kind o []).finish := State.siteArrival_answered h rfl

/-- R149: a window that begins with the read code opens and closes a read window. -/
theorem exec_payUnknownRequest_of_readCode (s : State) (clocked : List Byte) (cut : Bool) :
    exec (.payUnknownRequest (0x0F :: clocked) cut) s
      = .next (s.quiet fun t => t.openWindow.closeWindow clocked.length) :=
  congrArg Host.Outcome.next (if_pos rfl)

/-- R152: the frame of a payment request is that request. -/
theorem exec_payUnknownRequest_of_request (s : State) (r : PayRequest) :
    exec (.payUnknownRequest r.frame false) s = .next (s.payRequest r) := by
  have hbyte : r.frame ≠ [] := List.cons_ne_nil _ _
  have hcode : r.frame.head? ≠ some 0x0F := (by decide : (some 0x3C : Option Byte) ≠ some 0x0F)
  rw [exec_payUnknownRequest s hbyte hcode, readPayFrame_frame]
  rfl

/-- R165: the frame of a site request is that request. -/
theorem exec_siteUnknownRequest_of_request (s : State) (r : SiteRequest) :
    exec (.siteUnknownRequest r.frame false) s = .next (s.siteRequest r) := by
  have hbyte : r.frame ≠ [] := List.cons_ne_nil _ _
  rw [exec_siteUnknownRequest s hbyte, readSiteFrame_frame]
  rfl

/-- Settles O25: the frame's checks in their order, and the answer to each finding. -/
theorem unknownFramesAreAnswered : Obligations.UnknownFramesAreAnswered := by
  unfold Obligations.UnknownFramesAreAnswered
  intro s frame cut
  refine ⟨fun htakes => ⟨rfl, fun hbyte hcode => ⟨fun hbad => ?_, fun hsound hout => ?_⟩, ?_,
      exec_payUnknownRequest_of_request s⟩,
    fun htakes => ⟨rfl, fun hbyte => ⟨fun hbad => ?_, fun hsound hout => ?_⟩,
      exec_siteUnknownRequest_of_request s⟩⟩
  · have hread : readPayFrame frame cut = .badFrame (frame.getD 1 0) :=
      readFrame_of_bad payLength_eq_some_iff hbad
    rw [exec_payUnknownRequest s hbyte hcode, hread]
    exact congrArg _ (State.payRefusal_answered htakes _ _)
  · have hread : readPayFrame frame cut = .unknownKind (frame.getD 1 0) :=
      readFrame_of_outside payLength_eq_some_iff hsound hout
    rw [exec_payUnknownRequest s hbyte hcode, hread]
    exact congrArg _ (State.payRefusal_answered htakes _ _)
  · have hrun := (State.payTakes_split htakes).1
    rw [exec_payUnknownRequest_of_readCode, State.quiet_of_running hrun]
    exact congrArg Host.Outcome.next (State.quiet_of_running (s := s.openWindow)
      (f := fun t => t.closeWindow frame.length) hrun).symm
  · have hread : readSiteFrame frame cut = .badFrame (frame.getD 1 0) :=
      readFrame_of_bad siteLength_eq_some_iff hbad
    rw [exec_siteUnknownRequest s hbyte, hread]
    exact congrArg _ (State.siteRefusal_answered htakes _ _)
  · have hread : readSiteFrame frame cut = .unknownKind (frame.getD 1 0) :=
      readFrame_of_outside siteLength_eq_some_iff hsound hout
    rw [exec_siteUnknownRequest s hbyte, hread]
    exact congrArg _ (State.siteRefusal_answered htakes _ _)

end Sys2Proof.Machine
end

section
/-! SUPPORT. Read windows and read transactions (O26): what they clock out, and what they leave of the
port. -/

namespace Sys2Proof.Machine
open Sys2Proof

theorem clockOut_of_whole {frame : List Byte} {clocked : Nat} (h : frame.length ≤ clocked) :
    clockOut frame clocked = frame ++ List.replicate (clocked - frame.length) 0xFF := by
  rw [clockOut, List.take_of_length_le h]

theorem clockOut_of_part {frame : List Byte} {clocked : Nat} (h : clocked < frame.length) :
    clockOut frame clocked = frame.take clocked := by
  rw [clockOut, Nat.sub_eq_zero_of_le h.le, List.replicate_zero, List.append_nil]

/-- Without a frame a read clocks out filler. -/
theorem clockOut_nil (clocked : Nat) : clockOut [] clocked = List.replicate clocked 0xFF := by
  rw [clockOut_of_whole (Nat.zero_le _)]
  rfl

section
variable {s : State} {frame : List Byte} {clocked : Nat}

/-- R153: a window that opened on a held reply, and closes. -/
theorem State.closeWindow_of_sending (hstate : s.pay.state = .replyReady frame)
    (hwindow : s.pay.window = some true) :
    s.closeWindow clocked = { s with pay := { s.pay with
      window := none
      payDo := clockOut frame clocked
      state := if frame.length ≤ clocked then .idle else s.pay.state } } := by
  simp only [State.closeWindow, hwindow, hstate, Option.getD_some]

/-- R149: a window that opened without a held reply sends filler, whatever the port holds as it closes. -/
theorem State.closeWindow_of_filling (hwindow : s.pay.window = some false) :
    s.closeWindow clocked = { s with pay := { s.pay with
      window := none, payDo := List.replicate clocked 0xFF } } := by
  simp only [State.closeWindow, hwindow, Option.getD_some, clockOut_nil]

/-- R163: a read transaction on a held reply. -/
theorem State.readTransaction_of_ready (hstate : s.site.state = .replyReady frame) :
    s.readTransaction clocked = { s with site := { s.site with
      siteRead := some (clockOut frame clocked)
      state := if frame.length ≤ clocked then .idle else s.site.state } } := by
  simp only [State.readTransaction, hstate]

/-- R163: without a held reply the address is not acknowledged. -/
theorem State.readTransaction_of_not_ready (h : s.site.state.ready = false) :
    s.readTransaction clocked = { s with site := { s.site with siteRead := none } } := by
  unfold State.readTransaction
  split
  · next frame hstate =>
    rw [hstate] at h
    cases h
  · rfl

end

/-- Settles O26: what is clocked out is the held frame whole or in part, and a reply read whole ends. -/
theorem readsSendTheReply : Obligations.ReadsSendTheReply := by
  unfold Obligations.ReadsSendTheReply
  intro s n hrun
  have hquiet {f : State → State} {t : State} (h : f s = t) :
      (.next (s.quiet f) : Host.Outcome State Fault Refusal) = .next t.finish := by
    rw [State.quiet_of_running hrun, h]
  refine ⟨hquiet rfl, fun frame hstate hwindow => ⟨fun hwhole => hquiet ?_, fun hpart => hquiet ?_⟩,
    fun hwindow => hquiet (State.closeWindow_of_filling hwindow),
    fun frame hstate => ⟨fun hwhole => hquiet ?_, fun hpart => hquiet ?_⟩,
    fun hready => hquiet (State.readTransaction_of_not_ready hready)⟩
  · rw [State.closeWindow_of_sending hstate hwindow, if_pos hwhole, clockOut_of_whole hwhole]
  · rw [State.closeWindow_of_sending hstate hwindow, if_neg hpart.not_ge, clockOut_of_part hpart]
  · rw [State.readTransaction_of_ready hstate, if_pos hwhole, clockOut_of_whole hwhole]
  · rw [State.readTransaction_of_ready hstate, if_neg hpart.not_ge, clockOut_of_part hpart]

end Sys2Proof.Machine
end

section
/-! SUPPORT. ACKNOWLEDGE and SET LEVEL at both ports (O27): what they leave of the notices, and how they
are treated in and out of their ranges. -/

namespace Sys2Proof.Machine
open Sys2Proof

/-! ### The notices (R159, R160, R175) -/

section
variable {n : Nat} (v : Vector Notice n) (mask : Byte) (condition : Fin n → Bool) (i : Fin n)

theorem acknowledge_level : (cell (acknowledge v mask condition) i).level = (cell v i).level := by
  rw [acknowledge, cell_mapCells]
  split <;> rfl

/-- R159, R175: a flag is cleared if the mask names it and its cause is no condition cause. -/
theorem acknowledge_pending : (cell (acknowledge v mask condition) i).pending
    = ((cell v i).pending && !(mask.getLsbD i.val && !condition i)) := by
  rw [acknowledge, cell_mapCells]
  split
  · next hnamed => rw [hnamed, Bool.not_true, Bool.and_false]
  · next hkept => rw [Bool.eq_false_iff.mpr hkept, Bool.not_false, Bool.and_true]

end

/-- R157: HOLD_STOP and STORE_FAULT are the event causes of the Payment Port. -/
theorem not_payCondition (i : Fin 5) : (!payCondition i) = (i == 2 || i == 4) := by
  revert i
  decide

/-- R174: every cause of the Site Port but SENSOR_FAULT is an event cause. -/
theorem not_siteCondition (i : Fin 7) : (!siteCondition i) = (i != 2) := by
  revert i
  decide

/-! ### The treatments -/

/-- R160, R175: the code of a cause or a level in its range. -/
theorem toNat_code {n : Nat} (hn : n ≤ 256) (c : Fin n) : (BitVec.ofNat 8 c.val).toNat = c.val := by
  rw [BitVec.toNat_ofNat, Nat.mod_eq_of_lt (c.isLt.trans_le hn)]

section
variable (s : State)

/-- The state with other payment notices. -/
def State.withPayNotices (v : Vector Notice 5) : State := { s with pay := { s.pay with notices := v } }

/-- The state with other site notices. -/
def State.withSiteNotices (v : Vector Notice 7) : State := { s with site := { s.site with notices := v } }

theorem State.treatPayAcknowledge_of_lt {mask : Byte} (h : mask.toNat < 32) :
    s.treatPayAcknowledge mask = (s.withPayNotices (acknowledge s.pay.notices mask payCondition)).answer
      .done [BitVec.ofNat 8 (pendingBits (acknowledge s.pay.notices mask payCondition))] :=
  if_neg h.not_ge

theorem State.treatSiteAcknowledge_of_lt {mask : Byte} (h : mask.toNat < 128) :
    s.treatSiteAcknowledge mask
      = (s.withSiteNotices (acknowledge s.site.notices mask siteCondition)).answer .done
        [BitVec.ofNat 8 (pendingBits (acknowledge s.site.notices mask siteCondition))] :=
  if_neg h.not_ge

theorem State.treatPaySetLevel_of_codes (c : Fin 5) (l : Fin 8) :
    s.treatPaySetLevel (BitVec.ofNat 8 c.val) (BitVec.ofNat 8 l.val)
      = (s.withPayNotices (setLevel s.pay.notices c l)).answer .done [] := by
  have hc := toNat_code (by decide) c
  have hl := toNat_code (by decide) l
  refine (dif_pos ⟨hc.trans_lt c.isLt, hl.trans_lt l.isLt⟩).trans ?_
  simp only [hc, hl]
  rfl

theorem State.treatSiteSetLevel_of_codes (c : Fin 7) (l : Fin 8) :
    s.treatSiteSetLevel (BitVec.ofNat 8 c.val) (BitVec.ofNat 8 l.val)
      = (s.withSiteNotices (setLevel s.site.notices c l)).answer .done [] := by
  have hc := toNat_code (by decide) c
  have hl := toNat_code (by decide) l
  refine (dif_pos ⟨hc.trans_lt c.isLt, hl.trans_lt l.isLt⟩).trans ?_
  simp only [hc, hl]
  rfl

theorem State.treatPaySetLevel_of_ge {c l : Byte} (h : 5 ≤ c.toNat ∨ 8 ≤ l.toNat) :
    s.treatPaySetLevel c l = s.answer .range [] := dif_neg (by omega)

theorem State.treatSiteSetLevel_of_ge {c l : Byte} (h : 7 ≤ c.toNat ∨ 8 ≤ l.toNat) :
    s.treatSiteSetLevel c l = s.answer .range [] := dif_neg (by omega)

end

/-! ### The theorem -/

/-- Settles O27, request by request, in and out of its range. -/
theorem noticesAreAcknowledgedAndLevelled : Obligations.NoticesAreAcknowledgedAndLevelled := by
  unfold Obligations.NoticesAreAcknowledgedAndLevelled
  intro s
  refine ⟨fun hserve => ?_, fun hserve => ?_⟩
  · have hnotices {r : PayRequest} {v : Vector Notice 5} {body : List Byte}
        (ht : r.treat s.windowEnded = (s.windowEnded.withPayNotices v).answer .done body) :
        s.payRequest r = ((s.withPayNotices v).payReplied r.kind .done body).finish :=
      State.payRequest_quiet hserve ht rfl rfl rfl
    have hrange {r : PayRequest} (ht : r.treat s.windowEnded = s.windowEnded.answer .range []) :
        s.payRequest r = (s.payReplied r.kind .range []).finish := State.payRequest_refused hserve ht
    refine ⟨fun m hm => ⟨acknowledge s.pay.notices m payCondition,
        fun i => ⟨acknowledge_level _ _ _ i, ?_⟩,
        congrArg _ (hnotices (r := .acknowledge m) (State.treatPayAcknowledge_of_lt _ hm))⟩,
      fun m hm => congrArg _ (hrange (r := .acknowledge m) (if_pos hm)),
      fun c l => congrArg _
        (hnotices (r := .setLevel _ _) (State.treatPaySetLevel_of_codes s.windowEnded c l)),
      fun c l h => congrArg _ (hrange (r := .setLevel c l) (State.treatPaySetLevel_of_ge _ h))⟩
    rw [acknowledge_pending, not_payCondition]
  · have hnotices {r : SiteRequest} {v : Vector Notice 7} {body : List Byte}
        (ht : r.treat s = (s.withSiteNotices v).answer .done body) :
        s.siteRequest r = ((s.withSiteNotices v).siteReplied r.kind .done body).finish :=
      State.siteRequest_answered hserve ht
    have hrange {r : SiteRequest} (ht : r.treat s = s.answer .range []) :
        s.siteRequest r = (s.siteReplied r.kind .range []).finish := State.siteRequest_refused hserve ht
    refine ⟨fun m hm => ⟨acknowledge s.site.notices m siteCondition,
        fun i => ⟨acknowledge_level _ _ _ i, ?_⟩,
        congrArg _ (hnotices (r := .acknowledge m) (s.treatSiteAcknowledge_of_lt hm))⟩,
      fun m hm => congrArg _ (hrange (r := .acknowledge m) (if_pos hm)),
      fun c l => congrArg _ (hnotices (r := .setLevel _ _) (s.treatSiteSetLevel_of_codes c l)),
      fun c l h => congrArg _ (hrange (r := .setLevel c l) (s.treatSiteSetLevel_of_ge h))⟩
    rw [acknowledge_pending, not_siteCondition]

end Sys2Proof.Machine
end

section
/-! SUPPORT. The bytes of every request (O19, O20): Table 12.5's arguments follow the kind, and a frame cut
part-way through its last byte is refused before its kind is looked at. -/

namespace Sys2Proof.Machine
open Sys2Proof

/-- R152, R165: a frame cut part-way through a byte is a BAD_FRAME of the kind received. -/
theorem readFrame_cut {α : Type} {lengthOf : Nat → Option Nat} {build : Nat → List Byte → α}
    (frame : List Byte) : readFrame lengthOf build frame true = .badFrame (frame.getD 1 0) := by
  rw [readFrame]
  exact if_pos ((unsoundFrame_iff frame true).mp (.inl rfl))

/-- Settles O19: the arguments request by request; the reading back is `readPayFrame_frame`. -/
theorem payRequestsReadBack : Obligations.PayRequestsReadBack := by
  unfold Obligations.PayRequestsReadBack
  refine fun r => ⟨congrArg (closeFrame 0x3C) ?_, readPayFrame_frame r, readFrame_cut r.frame⟩
  cases r <;> rfl

/-- Settles O20: the arguments request by request; the reading back is `readSiteFrame_frame`. -/
theorem siteRequestsReadBack : Obligations.SiteRequestsReadBack := by
  unfold Obligations.SiteRequestsReadBack
  refine fun r => ⟨congrArg (closeFrame 0x3C) ?_, readSiteFrame_frame r, readFrame_cut r.frame⟩
  cases r <;> rfl

end Sys2Proof.Machine
end

section
/-! SUPPORT. Reply frames and bodies (O22): the length of each field, the flags of a byte as weights, the
highest pending cause of R158 as a choice over the table, and the bytes of a record read with an error. -/

namespace Sys2Proof.Machine
open Sys2Proof

/-! ### Fields (R185) -/

/-- An absent field of zeros, as Table 12.1 writes it. -/
theorem bytesOf_zero (width : Nat) : bytesOf width 0 = List.replicate width 0 := by
  induction width with
  | zero => rfl
  | succ width ih =>
    rw [bytesOf, Nat.zero_div, ih]
    exact List.replicate_succ'.symm

theorem optionalField_eq_match (width : Nat) (v : Option Nat) : optionalField width v =
    match v with
    | some n => 1 :: bytesOf width n
    | none => List.replicate (width + 1) 0 := by
  cases v with
  | none => exact congrArg (List.cons 0) (bytesOf_zero width)
  | some n => rfl

/-- An optional signed field of two bytes is the optional field of its two's complement. -/
theorem optionalSigned_two (v : Option Int) :
    optionalSigned 2 v = optionalField 2 (v.map fun t => (t % 65536).toNat) := by
  cases v <;> rfl

theorem optionalField_length (width : Nat) (v : Option Nat) :
    (optionalField width v).length = width + 1 := by
  cases v <;> simp [optionalField, bytesOf_length]

theorem wordBytes_length {w : Nat} (width : Nat) (v : BitVec w) : (wordBytes width v).length = width :=
  bytesOf_length width v.toNat

theorem stampBytes_length (c : ClockStamp) : (stampBytes c).length = 5 := by
  simp [stampBytes, bytesOf_length]

theorem optionalStamp_length (c : Option ClockStamp) : (optionalStamp c).length = 5 := by
  cases c with
  | none => exact bytesOf_length 5 0
  | some c => exact stampBytes_length c

theorem closeFrame_length (start : Byte) (fields : List Byte) :
    (closeFrame start fields).length = fields.length + 3 := by
  simp [closeFrame, bytesOf_length]

/-! ### Segments (Table 12.7) -/

/-- The count byte and the segments behind it, which end a record and a session view. -/
def segmentListBytes (l : List Segment) : List Byte := bytesOf 1 l.length ++ l.flatMap segmentBytes

theorem segmentBytes_length (g : Segment) : (segmentBytes g).length = 28 := by
  simp [segmentBytes, bytesOf_length, stampBytes_length]

theorem segments_length (l : List Segment) : (l.flatMap segmentBytes).length = 28 * l.length := by
  induction l with
  | nil => rfl
  | cons g l ih =>
    rw [List.flatMap_cons, List.length_append, segmentBytes_length, ih, List.length_cons]
    omega

/-! ### Flag bytes (R189) -/

theorem flagBits_three (a b c : Bool) : flagBits [a, b, c] = a.toNat + 2 * b.toNat + 4 * c.toNat := by
  simp only [flagBits]
  omega

theorem flagBits_five (a b c d e : Bool) : flagBits [a, b, c, d, e] =
    a.toNat + 2 * b.toNat + 4 * c.toNat + 8 * d.toNat + 16 * e.toNat := by
  simp only [flagBits]
  omega

theorem flagBits_seven (a b c d e f g : Bool) : flagBits [a, b, c, d, e, f, g] =
    a.toNat + 2 * b.toNat + 4 * c.toNat + 8 * d.toNat + 16 * e.toNat + 32 * f.toNat + 64 * g.toNat := by
  simp only [flagBits]
  omega

theorem toList_eq_ofFn {α : Type} {n : Nat} (v : Vector α n) : v.toList = List.ofFn (cell v) :=
  List.ext_getElem (by simp) fun i h _ => by simp [cell]

theorem pendingBits_five (v : Vector Notice 5) : pendingBits v =
    (cell v 0).pending.toNat + 2 * (cell v 1).pending.toNat + 4 * (cell v 2).pending.toNat
      + 8 * (cell v 3).pending.toNat + 16 * (cell v 4).pending.toNat := by
  rw [pendingBits, toList_eq_ofFn]
  exact flagBits_five ..

theorem pendingBits_seven (v : Vector Notice 7) : pendingBits v =
    (cell v 0).pending.toNat + 2 * (cell v 1).pending.toNat + 4 * (cell v 2).pending.toNat
      + 8 * (cell v 3).pending.toNat + 16 * (cell v 4).pending.toNat
      + 32 * (cell v 5).pending.toNat + 64 * (cell v 6).pending.toNat := by
  rw [pendingBits, toList_eq_ofFn]
  exact flagBits_seven ..

/-! ### The highest pending cause (R158, R191) -/

/-- The choice over a list: place `k` has a pending cause of level `level`, at least 1; no pending cause has
a higher level, and none before it the same. -/
def IsHighest (l : List Notice) (k level : Nat) : Prop :=
  ∃ x, l[k]? = some x ∧ x.pending = true ∧ x.level.val = level ∧ 0 < level
    ∧ ∀ (m : Nat) (y : Notice), l[m]? = some y → y.pending = true →
      y.level.val ≤ level ∧ (m < k → y.level.val < level)

/-- The choice keeps its place behind a notice that calls less, or does not call at all. -/
theorem IsHighest.cons {l : List Notice} {k level : Nat} (h : IsHighest l k level) {x : Notice}
    (hx : x.pending = true → x.level.val < level) : IsHighest (x :: l) (k + 1) level := by
  obtain ⟨z, hz, hpending, hlevel, hpos, hmax⟩ := h
  refine ⟨z, hz, hpending, hlevel, hpos, fun m y hy hyp => ?_⟩
  cases m with
  | zero =>
    obtain rfl : x = y := Option.some_inj.mp hy
    exact ⟨(hx hyp).le, fun _ => hx hyp⟩
  | succ m => exact ⟨(hmax m y hy hyp).1, fun hm => (hmax m y hy hyp).2 (Nat.lt_of_succ_lt_succ hm)⟩

/-- A notice that calls, with none behind it calling more, is the choice. -/
theorem isHighest_head {x : Notice} {l : List Notice} (hx : x.pending = true) (hpos : 0 < x.level.val)
    (hrest : ∀ y ∈ l, y.pending = true → y.level.val ≤ x.level.val) :
    IsHighest (x :: l) 0 x.level.val := by
  refine ⟨x, rfl, hx, rfl, hpos, fun m y hy hyp => ⟨?_, fun hm => absurd hm m.not_lt_zero⟩⟩
  cases m with
  | zero => exact (congrArg (·.level.val) (Option.some_inj.mp hy)).ge
  | succ m => exact hrest y (List.mem_of_getElem? hy) hyp

theorem IsHighest.le {l : List Notice} {k level : Nat} (h : IsHighest l k level) {y : Notice}
    (hy : y ∈ l) (hp : y.pending = true) : y.level.val ≤ level := by
  obtain ⟨_, _, _, _, _, hmax⟩ := h
  obtain ⟨m, hm⟩ := List.mem_iff_getElem?.mp hy
  exact (hmax m y hm hp).1

/-- What `highestFrom` answers is the choice, or there is nothing to choose. -/
theorem highestFrom_spec (l : List Notice) (i : Nat) :
    (highestFrom i l = none ∧ ∀ x ∈ l, x.pending = true → x.level.val = 0)
    ∨ ∃ k level, highestFrom i l = some (i + k, level) ∧ IsHighest l k level := by
  induction l generalizing i with
  | nil => exact .inl ⟨rfl, nofun⟩
  | cons x l ih =>
    by_cases hx : x.pending = true ∧ 1 ≤ x.level.val
    · have hcalls : (x.pending && decide (1 ≤ x.level.val)) = true := by simpa using hx
      obtain ⟨hnone, hzero⟩ | ⟨k, level, hsome, hk⟩ := ih (i + 1)
      · refine .inr ⟨0, x.level.val, ?_, isHighest_head hx.1 hx.2 fun y hy hp => ?_⟩
        · simp only [highestFrom, hcalls, hnone, if_true, Nat.add_zero]
        · rw [hzero y hy hp]
          exact Nat.zero_le _
      · by_cases hlt : x.level.val < level
        · refine .inr ⟨k + 1, level, ?_, hk.cons fun _ => hlt⟩
          simp only [highestFrom, hcalls, hsome, if_true, if_pos hlt]
          rw [Nat.add_right_comm, Nat.add_assoc]
        · refine .inr ⟨0, x.level.val, ?_,
            isHighest_head hx.1 hx.2 fun y hy hp => (hk.le hy hp).trans (not_lt.mp hlt)⟩
          simp only [highestFrom, hcalls, hsome, if_true, if_neg hlt, Nat.add_zero]
    · have hquiet : (x.pending && decide (1 ≤ x.level.val)) = false := by simpa using hx
      have hzero (hp : x.pending = true) : x.level.val = 0 := by
        by_contra hne
        exact hx ⟨hp, Nat.one_le_iff_ne_zero.mpr hne⟩
      have hlater : highestFrom i (x :: l) = highestFrom (i + 1) l := by
        simp [highestFrom, hquiet]
      rw [hlater]
      obtain ⟨hnone, hrest⟩ | ⟨k, level, hsome, hk⟩ := ih (i + 1)
      · exact .inl ⟨hnone, List.forall_mem_cons.mpr ⟨hzero, hrest⟩⟩
      · refine .inr ⟨k + 1, level, ?_, hk.cons fun hp => ?_⟩
        · rw [hsome, Nat.add_assoc, Nat.add_comm 1]
        · obtain ⟨_, _, _, _, hpos, _⟩ := hk
          rwa [hzero hp]

/-- R191: what a status body says of a notice table: the first pending cause of the highest level, or three
zero bytes where no pending cause has a level. -/
def HighestSent (n : Nat) (v : Vector Notice n) (bytes : List Byte) : Prop :=
  (∀ c : Fin n, (cell v c).pending = true → (cell v c).level.val = 0) ∧ bytes = [0, 0, 0]
  ∨ ∃ c : Fin n, (cell v c).pending = true ∧ 0 < (cell v c).level.val
    ∧ (∀ d : Fin n, (cell v d).pending = true → (cell v d).level ≤ (cell v c).level
      ∧ (d < c → (cell v d).level < (cell v c).level))
    ∧ bytes = [1, BitVec.ofNat 8 c.val, BitVec.ofNat 8 (cell v c).level.val]

theorem getElem?_toList_cell {α : Type} {n : Nat} (v : Vector α n) (c : Fin n) :
    v.toList[c.val]? = some (cell v c) := by
  simp [cell]

theorem highestBytes_length (h : Option (Nat × Nat)) : (highestBytes h).length = 3 := by
  cases h <;> rfl

theorem highestBytes_sent {n : Nat} (v : Vector Notice n) :
    HighestSent n v (highestBytes (highest v)) := by
  rw [highest]
  obtain ⟨hnone, hzero⟩ | ⟨k, level, hsome, x, hx, hpending, rfl, hpos, hmax⟩ :=
    highestFrom_spec v.toList 0
  · refine .inl ⟨fun c => hzero _ (List.mem_of_getElem? (getElem?_toList_cell v c)), ?_⟩
    rw [hnone]
    rfl
  · obtain ⟨hk, -⟩ := List.getElem?_eq_some_iff.mp hx
    rw [Vector.length_toList] at hk
    obtain rfl : cell v ⟨k, hk⟩ = x :=
      Option.some_inj.mp ((getElem?_toList_cell v ⟨k, hk⟩).symm.trans hx)
    refine .inr ⟨⟨k, hk⟩, hpending, hpos, fun d => hmax d _ (getElem?_toList_cell v d), ?_⟩
    rw [hsome, Nat.zero_add]
    rfl

/-! ### Records (R190) -/

theorem QueueEntry.bytes_of_built {e : QueueEntry} {r : SettlementRecord} (h : e.body = .built r) :
    e.bytes = recordBytes r e.notDurable e.corrupt := by
  rw [QueueEntry.bytes, h]

theorem QueueEntry.bytes_of_asRead {e : QueueEntry} {image : BodyImage} (h : e.body = .asRead image) :
    e.bytes = asReadBytes e image := by
  rw [QueueEntry.bytes, h]

theorem recordBytes_length (r : SettlementRecord) (notDurable corrupt : Bool) :
    (recordBytes r notDurable corrupt).length = 66 + 28 * r.segments.length := by
  unfold recordBytes
  simp only [List.length_append, bytesOf_length, wordBytes_length, stampBytes_length, segments_length]

theorem asReadBytes_length (e : QueueEntry) (image : BodyImage) :
    (asReadBytes e image).length = 66 + 28 * min image[65].toNat 8 := by
  simp only [asReadBytes, List.length_append, bytesOf_length, List.length_take, List.length_drop,
    Vector.length_toList, List.length_singleton]
  omega

theorem getD_take_drop {α : Type} (l : List α) (start : Nat) {count i : Nat} (d : α) (h : i < count) :
    ((l.drop start).take count).getD i d = l.getD (start + i) d := by
  simp [List.getD_eq_getElem?_getD, h]

/-- A record read with an error, byte by byte: its numbers, the flag byte, and for the rest the image. -/
theorem asReadBytes_getD (e : QueueEntry) (image : BodyImage) {i : Nat}
    (hi : i < (asReadBytes e image).length) : (asReadBytes e image).getD i 0 =
      if i < 8 then (bytesOf 4 e.session ++ bytesOf 4 e.closeSequence).getD i 0
      else if i = 64 then (image[64] &&& 0xE7)
        ||| BitVec.ofNat 8 (8 * e.notDurable.toNat + 16 * e.corrupt.toNat)
      else image.toList.getD i 0 := by
  have hflags : flagBits [false, false, false, e.notDurable, e.corrupt]
      = 8 * e.notDurable.toNat + 16 * e.corrupt.toNat := by
    rw [flagBits_five]
    simp
  have hnumbers : (bytesOf 4 e.session ++ bytesOf 4 e.closeSequence).length = 8 := by
    rw [List.length_append, bytesOf_length, bytesOf_length]
  have hwords : ((image.toList.drop 8).take 56).length = 56 := by simp
  rw [asReadBytes_length] at hi
  rw [asReadBytes, hflags]
  generalize bytesOf 4 e.session ++ bytesOf 4 e.closeSequence = numbers at hnumbers ⊢
  obtain hlt | ⟨hge, hlt⟩ | rfl | hgt : i < 8 ∨ (8 ≤ i ∧ i < 64) ∨ i = 64 ∨ 64 < i := by omega
  · rw [if_pos hlt, List.append_assoc, List.append_assoc, List.getD_append _ _ _ _ (by omega)]
  · rw [if_neg (by omega), if_neg (by omega), List.append_assoc, List.append_assoc,
      List.getD_append_right _ _ _ _ (by omega), List.getD_append _ _ _ _ (by omega),
      getD_take_drop _ _ _ (by omega), hnumbers, Nat.add_sub_cancel' hge]
  · rw [if_neg (by omega), if_pos rfl, List.append_assoc,
      List.getD_append_right _ _ _ _ (by rw [List.length_append]; omega), List.length_append, hnumbers,
      hwords]
    rfl
  · have hplace : 65 + (i - 65) = i := by omega
    have hfront (b : Byte) : (numbers ++ (image.toList.drop 8).take 56 ++ [b]).length = 65 := by
      rw [List.length_append, List.length_append, hnumbers, hwords, List.length_singleton]
    rw [if_neg (by omega), if_neg (by omega), List.getD_append_right _ _ _ _ (by rw [hfront]; omega),
      hfront, getD_take_drop _ _ _ (by omega), hplace]

/-! ### The lengths of the other bodies and frames (R186, R190, Tables 12.8 to 12.11) -/

theorem Session.segments_length (x : Session) : x.segments.length = x.earlier.length + 1 :=
  List.length_append

theorem sessionView_length (p : Pedestal) (x : Session) :
    (sessionView p x).length = 87 + 28 * (x.earlier.length + 1) := by
  unfold sessionView
  simp only [List.length_append, bytesOf_length, wordBytes_length, stampBytes_length, optionalStamp_length,
    optionalField_length, segments_length, Session.segments_length]

theorem State.payStatusBody_length (s : State) : s.payStatusBody.length = 7 := by
  simp only [State.payStatusBody, List.length_append, bytesOf_length, highestBytes_length]

theorem State.siteStatusBody_length (s : State) : s.siteStatusBody.length = 14 := by
  simp only [State.siteStatusBody, List.length_append, bytesOf_length, highestBytes_length,
    stampBytes_length]

theorem State.allotmentBody_length (s : State) (p : Pedestal) : (s.allotmentBody p).length = 33 := by
  simp only [State.allotmentBody, List.length_append, List.length_singleton, bytesOf_length,
    optionalField_length]

theorem State.feederBody_length (s : State) (f : Feeder) : (s.feederBody f).length = 23 := by
  simp only [State.feederBody, signedBytes, optionalSigned_two, List.length_append,
    List.length_singleton, bytesOf_length, optionalField_length]

theorem replyFrame_length (kind : Byte) (previousUnread dropped : Bool) (park : ParkState) (r : Reply) :
    (replyFrame kind previousUnread dropped park r).length = r.body.length + 9 := by
  simp only [replyFrame, closeFrame_length, List.length_append, List.length_singleton, bytesOf_length]
  omega

theorem State.pollFrame_length (s : State) (p : Pedestal) : (s.pollFrame p).length = 19 := by
  simp only [State.pollFrame, closeFrame_length, List.length_append, bytesOf_length]

/-! ### The theorem -/

/-- Settles O22: the statement's fields are those of the model, and each body is then read off its
definition. -/
theorem bodiesHaveTheirLengths : Obligations.BodiesHaveTheirLengths := by
  unfold Obligations.BodiesHaveTheirLengths
  intro optional stamp flag segments highestSent
  have hoptional : optional = optionalField := funext₂ fun width v => (optionalField_eq_match width v).symm
  have hstamp : stamp = stampBytes := rfl
  have hflag : flag = flagByte := funext fun on => (flagByte_eq_ofNat on).symm
  have hsegments : segments = segmentListBytes := rfl
  have hhighest : highestSent = HighestSent := rfl
  clear_value optional stamp flag segments highestSent
  subst hoptional hstamp hflag hsegments hhighest
  refine ⟨fun e r h => ?_, fun e image h => ?_, fun p x => ⟨sessionView_length p x, ?_⟩,
    fun s => ⟨s.payStatusBody_length, s.siteStatusBody_length, ⟨_, highestBytes_sent s.pay.notices, ?_⟩,
      ⟨_, highestBytes_sent s.site.notices, ?_⟩, fun p => ⟨s.allotmentBody_length p, rfl⟩,
      fun f => ⟨s.feederBody_length f, ?_⟩⟩,
    fun k u d x r => ⟨replyFrame_length k u d x r, rfl⟩, rfl, rfl, rfl, rfl, rfl, rfl, rfl, rfl, rfl, rfl,
    State.pollFrame_length⟩
  · rw [QueueEntry.bytes_of_built h]
    refine ⟨recordBytes_length r _ _, ?_⟩
    unfold recordBytes segmentListBytes
    simp only [flagBits_five, wordBytes, List.append_assoc]
  · rw [QueueEntry.bytes_of_asRead h]
    exact ⟨asReadBytes_length e image, fun i => asReadBytes_getD e image⟩
  · unfold sessionView segmentListBytes
    simp only [flagBits_three, wordBytes, List.append_assoc]
    cases x.authorised <;> rfl
  · rw [State.payStatusBody, pendingBits_five]
  · rw [State.siteStatusBody, pendingBits_seven]
    rfl
  · rw [State.feederBody, optionalSigned_two]
    rfl

end Sys2Proof.Machine
end

section
/-! The step at a waiting command (00_scope.md section 3.3). -/

namespace Sys2Proof.Machine
open Sys2Proof

/-- A step with a command waiting: the command leaves the queue and takes effect. -/
theorem step_of_pending_cons {s : State} {c : Instr} {rest : List Instr} (h : s.pending = c :: rest) :
    step s = exec c { s with pending := rest } := by
  rw [step, h]

/-- Settles O1: the queue of the statement's state is written out, and replacing it by its rest gives
`s` with that rest. -/
theorem stepRunsFrontCommand : Obligations.StepRunsFrontCommand := by
  unfold Obligations.StepRunsFrontCommand
  intro c rest s
  exact step_of_pending_cons (s := { s with pending := c :: rest }) rfl

end Sys2Proof.Machine
end
